-- ==== Sys2Proof/Word.lean ====
section
/-! DEFINITION. The byte and the small numbers by which the TL632 names its parts. -/

namespace Sys2Proof

/-- One byte: a register of the host window, a character of the Station Link, a cell of buffer memory. -/
abbrev Byte := BitVec 8

/-- The number of a station record, 0 to 31 (R1). -/
abbrev StationNo := Fin 32

/-- The number of a listen lane, 0 to 3 (R59). -/
abbrev LaneNo := Fin 4

/-- The number of a trigger line, 0 to 3 (R150). -/
abbrev LineNo := Fin 4

/-- A link unit, 0 to 127 as an address carries it (R28). -/
abbrev LinkUnit := Fin 128

/-- A port of an address, 0 to 15 (R28). -/
abbrev LinkPort := Fin 16

/-- The 32 bytes of the parameter block (R171). -/
abbrev ParamBlock := Vector Byte 32

end Sys2Proof
end

