-- ==== Sys2Proof/Syntax.lean ====
section
/-! DEFINITION. The commands of the block: one constructor of `Instr` for each row of spec/opcode_table.json. -/

namespace Sys2Proof

/-- The two bytes of an address as a frame body carries them: the unit byte, then the port byte (R28). -/
structure AddressBytes where
  unitByte : Byte
  portByte : Byte
  deriving DecidableEq, Repr

/-- The scope of a CLEAR frame: 0x00 ALL or 0x01 LISTENERS (R145, the frame layout table of section 2.3). -/
inductive ClearScope where
  | all
  | listeners
  deriving DecidableEq, Repr

/-- One character on LRXD: its eight data bits, and whether its stop bit was found at the high level (R25). -/
structure LinkChar where
  byte : Byte
  stopHigh : Bool
  deriving DecidableEq, Repr

/-- A run of characters with no idle gap of 2 µs inside it, up to the gap that ends it (R26). -/
inductive LinkRun where
  /-- A run that began at the first start bit after at least 2 µs of idle line. -/
  | afterIdle (chars : List LinkChar)
  /-- A run that followed a check byte with less than 2 µs of idle line between them. -/
  | afterCheck (chars : List LinkChar)
  deriving DecidableEq, Repr

/-- The commands, in the order of the table. A frame row is the end of a good frame of that kind, with the frame's
contents as its operands; a row that names a host command is that command (log entry 5); a row that names a register
access is the access. The docstring of each gives the row's mnemonic and rule. -/
inductive Instr where
  /-- HARDWARE_RESET (R1): power-on, or NRST held low. -/
  | hardwareReset (powerOn : Bool)
  /-- ROUTE (R61): the end of a ROUTE frame with its talker address and its listener entries. -/
  | route (talker : AddressBytes) (listeners : List AddressBytes)
  /-- DATA (R97): the end of a DATA frame, type 0x21 with the end mark and 0x20 without. -/
  | data (endMark : Bool) (body : List Byte)
  /-- FETCH (R117). -/
  | fetch
  /-- POLL (R132). -/
  | poll (address : AddressBytes)
  /-- CLEAR (R145). -/
  | clear (scope : ClearScope)
  /-- TRIGGER (R148). -/
  | trigger
  /-- REMOTE (R139): ON or OFF. -/
  | remote (on : Bool)
  /-- LOCKOUT (R140). -/
  | lockout
  /-- LOCAL (R141). -/
  | localFrame
  /-- RESET_LINK (R44). -/
  | resetLink
  /-- PRIVATE (R81): the private code (the type less 0x80) and the body. -/
  | privateFrame (code : BitVec 6) (body : List Byte)
  /-- RESPONDER_FRAME (R31): the end of a STATUS (true) or REPLY (false) frame that passes its check. -/
  | responderFrame (isStatus : Bool) (body : List Byte)
  /-- FRAME_DISCARDED (R32): a run of raw characters, judged by the tests of R32. -/
  | frameDiscarded (run : LinkRun)
  /-- SEND_REPLY (R35). -/
  | sendReply
  /-- REPLY_SENT (R35). -/
  | replySent
  /-- HOLD_EXPIRY (R89). -/
  | holdExpiry
  /-- STAGE_EXPIRY (R107). -/
  | stageExpiry
  /-- COMMAND_COMPLETION (R168). -/
  | commandCompletion
  /-- ATTACH (R41). -/
  | attach
  /-- DETACH (R42). -/
  | detach
  /-- DEFINE_STATION (R14). -/
  | defineStation
  /-- ADJUST_STATION (R15). -/
  | adjustStation
  /-- READ_STATION (R16). -/
  | readStation
  /-- RETIRE_STATION_GRACEFUL (R19). -/
  | retireStationGraceful
  /-- RETIRE_STATION_IMMEDIATE (R22). -/
  | retireStationImmediate
  /-- SET_STATUS (R129). -/
  | setStatus
  /-- REQUEST_SERVICE (R130). -/
  | requestService
  /-- WITHDRAW_REQUEST (R131). -/
  | withdrawRequest
  /-- RETURN_TO_LOCAL (R142). -/
  | returnToLocal
  /-- POST_OUTBOUND (R115). -/
  | postOutbound
  /-- CANCEL_OUTBOUND (R116). -/
  | cancelOutbound
  /-- RELEASE_INBOUND (R105). -/
  | releaseInbound
  /-- TAKE_NOTICE (R157). -/
  | takeNotice
  /-- READ_HOLD (R92). -/
  | readHold
  /-- ANSWER_HOLD (R82). -/
  | answerHold
  /-- READ_ROUTE (R73). -/
  | readRoute
  /-- SET_HOLD_LIMIT (R79). -/
  | setHoldLimit
  /-- FORCE_TRIGGER (R151). -/
  | forceTrigger
  /-- UNKNOWN_COMMAND (R167): a command whose code is not in the command table. -/
  | unknownCommand (code : Byte)
  /-- READ_RESULT (R169). -/
  | readResult
  /-- PARAM_INDEX_WRITE (R171). -/
  | paramIndexWrite (value : Byte)
  /-- PARAM_DATA_WRITE (R171). -/
  | paramDataWrite (value : Byte)
  /-- PARAM_DATA_READ (R171). -/
  | paramDataRead
  /-- DATA_READ (R174). -/
  | dataRead
  /-- DATA_WRITE (R174). -/
  | dataWrite (value : Byte)
  /-- IRQ_ENABLE_WRITE (R162). -/
  | irqEnableWrite (value : Byte)
  /-- DEVICE_NOTICE_WRITE (R161). -/
  | deviceNoticeWrite (value : Byte)
  /-- REGISTER_WRITE (R166): a write of a byte to the register A3–A0 selects. -/
  | registerWrite (register : BitVec 4) (value : Byte)
  /-- FRAME_START (R26). -/
  | frameStart
  /-- IDLE_GAP (R41). -/
  | idleGap
  /-- MILLISECOND_STEP (R80). -/
  | millisecondStep
  /-- NRST_RELEASE (R39). -/
  | nrstRelease
  deriving DecidableEq, Repr

end Sys2Proof
end

