-- ==== Sys2Proof/Decode.lean ====
section
/-! DEFINITION. The decoder over the rows of the table that give bits: none does. -/

namespace Sys2Proof

/-- The command a word spells by the bits of spec/opcode_table.json. The table gives no row any bits ("fields": []), so no word
spells a command. -/
def decodeTableWord (_nbits _w : Nat) : Option Instr := none

end Sys2Proof
end

