-- ==== Sys2Proof/Config.lean ====
section
/-! DEFINITION. The values the specification leaves open: opaque constants, so no proof can see what they are. -/

namespace Sys2Proof

/-- What a byte of buffer memory that nothing has written since power-on holds (R177: "After power-on the
memory's contents are undefined"), by the number of power-ons the machine has seen and the byte's address.
FREE VALUE, log entry 1. -/
opaque Config.powerOnByte : Nat → Nat → Byte

/-- The bytes READ STATION returns for items it states no value for: the first page of an absent region and the
tag of an absent hold (R172). The argument is the model's own counter of such values. FREE VALUE, log entry 2. -/
opaque Config.unstatedByte : Nat → Byte

end Sys2Proof
end

