-- ==== Sys2Proof/Machine/State.lean ====
section
/-! DEFINITION. The state of the TL632 as plain data, its value after a hardware reset, and the reasons a step can stop. -/

namespace Sys2Proof.Machine

/-! ## The station record (section 1.1) -/

/-- The life states of a record that is not FREE (R6). A FREE record has no fields (R1): it is `none` in the table. -/
inductive LifeState where
  | online
  | retiring
  | retired
  deriving DecidableEq, Repr

/-- The match width: how many consecutive units a station answers to (R2). -/
inductive MatchWidth where
  | exact
  | pair
  | quad
  deriving DecidableEq, Repr

/-- The port policy: NONE, FIXED with its port, or OPEN (R3). -/
inductive PortPolicy where
  | noPort
  | fixed (port : LinkPort)
  | openPort
  deriving DecidableEq, Repr

/-- A run of pages of buffer memory: first page and page count (R4). -/
structure Region where
  first : Fin 256
  count : Nat
  deriving DecidableEq, Repr

/-- The four hold options (R5). -/
structure HoldOptions where
  onClear : Bool
  onTrigger : Bool
  onEnd : Bool
  passPrivate : Bool
  deriving DecidableEq, Repr

/-- An address as a frame carried it: a unit, and a port when the frame carried one (R28, R53). -/
structure Address where
  unit : LinkUnit
  port : Option LinkPort
  deriving DecidableEq, Repr

/-- The request state (R127). -/
inductive RequestState where
  | quiet
  | asking
  | answered
  deriving DecidableEq, Repr

/-- The control mode: LOCAL, REMOTE, LOCAL_LOCKED, REMOTE_LOCKED (R137). -/
inductive ControlMode where
  | unlockedLocal
  | unlockedRemote
  | lockedLocal
  | lockedRemote
  deriving DecidableEq, Repr

/-- The inbound state with its fill length and continues mark (R95). EMPTY has fill length 0, and EMPTY and FILLING
have the continues mark clear, by the table of R95. -/
inductive Inbound where
  | empty
  | filling (fill : Nat)
  | complete (fill : Nat) (continues : Bool)
  deriving DecidableEq, Repr

/-- The outbound state with its posted length, end flag and cursor (R113). EMPTY has length 0, end flag clear and
cursor 0, and POSTED has cursor 0, by the table of R113. -/
inductive Outbound where
  | empty
  | posted (length : Nat) (endFlag : Bool)
  | sending (length : Nat) (endFlag : Bool) (cursor : Nat)
  | closing (length : Nat) (endFlag : Bool) (cursor : Nat)
  deriving DecidableEq, Repr

/-- The eleven kinds of station notice (R154). -/
inductive NoticeKind where
  | inboundComplete
  | outboundDone
  | dataLost
  | polled
  | modeChanged
  | cleared
  | triggered
  | seatDenied
  | holdExpired
  | holdWithdrawn
  | retired
  deriving DecidableEq, Repr

/-- A notice set: each of the eleven kinds present or absent (R154). -/
structure NoticeSet where
  inboundComplete : Bool
  outboundDone : Bool
  dataLost : Bool
  polled : Bool
  modeChanged : Bool
  cleared : Bool
  triggered : Bool
  seatDenied : Bool
  holdExpired : Bool
  holdWithdrawn : Bool
  retired : Bool
  deriving DecidableEq, Repr

/-- A station record that is not FREE (section 1.1). The seat, the pending hold and the owed staged frame of a station
are kept once, in the route, the hold list and the stage, and read from there. -/
structure StationRecord where
  life : LifeState
  unit : LinkUnit
  width : MatchWidth
  policy : PortPolicy
  acceptedPort : Option LinkPort
  mayTalk : Bool
  mayListen : Bool
  inRegion : Option Region
  outRegion : Option Region
  options : HoldOptions
  triggerLine : Option LineNo
  lastMatched : Option Address
  status : BitVec 7
  request : RequestState
  mode : ControlMode
  inbound : Inbound
  outbound : Outbound
  notices : NoticeSet
  deriving DecidableEq, Repr

/-! ## The route, the holds and the stage -/

/-- An occupied place of the route: the station, and whether its seating is tentative (R59). -/
structure Place where
  station : StationNo
  tentative : Bool
  deriving DecidableEq, Repr

/-- The kind of a hold with its detail (R75); the detail of a PRIVATE hold is the one private frame copy. -/
inductive HoldKind where
  | port (unit : LinkUnit) (port : LinkPort)
  | clear (scope : ClearScope)
  | trigger
  | endOfMessage
  | privateFrame
  deriving DecidableEq, Repr

/-- A pending hold, as the hold list keeps it: its station, kind, tag and timer (R75). The timer is the remaining time
in milliseconds, or `none` for an untimed hold (R80). -/
structure Hold where
  station : StationNo
  kind : HoldKind
  tag : Byte
  remaining : Option Nat
  deriving DecidableEq, Repr

/-- The staged DATA frame: its body, its end mark, the owed set in ascending station number, and the stage timer
(R102, R104). -/
structure Stage where
  body : List Byte
  endMark : Bool
  owed : List StationNo
  remaining : Option Nat
  deriving DecidableEq, Repr

/-- The private frame copy: the private code and the body (R81). -/
structure PrivateCopy where
  code : BitVec 6
  body : List Byte
  deriving DecidableEq, Repr

/-! ## The link interface and the host port -/

/-- Where reception stands (R26, R41): waiting for the first idle gap after ATTACH (and while DETACHED), ready for a
start bit, or with a frame in reception and the mark that says whether the part was driving LBUSY when it began (R33). -/
inductive Reception where
  | awaitingGap
  | ready
  | receiving (beganBusy : Bool)
  deriving DecidableEq, Repr

/-- A frame the part sends: a REPLY with its two flags and its data, or a STATUS with its request mark and status
byte (R117, R132). -/
inductive ReplyFrame where
  | reply (endFlag : Bool) (notReady : Bool) (data : List Byte)
  | status (requestMark : Bool) (status : BitVec 7)
  deriving DecidableEq, Repr

/-- The kind of a link fault (R32). -/
inductive FaultKind where
  | damaged
  | unknownType
  | busyViolation
  deriving DecidableEq, Repr

/-- The command engine: IDLE, BUSY with the code in hand and the parameter snapshot, or DONE (section 11.2). -/
inductive Engine where
  | idle
  | busy (code : Byte) (snapshot : ParamBlock)
  | done
  deriving DecidableEq, Repr

/-- The result codes, in the order of the table of R169 (0x00 to 0x13). -/
inductive ResultCode where
  | noneYet
  | ok
  | pending
  | already
  | badField
  | noFreeStation
  | stationInUse
  | notDefined
  | notOnline
  | addressInUse
  | regionInUse
  | outboundBusy
  | nothingToCancel
  | inboundNotHeld
  | noHold
  | requestUnwithdrawn
  | locked
  | alreadyLocal
  | empty
  | unknownCommand
  deriving DecidableEq, Repr

/-- The five device notice flags (R160). -/
structure DeviceNotices where
  linkResetSeen : Bool
  linkFault : Bool
  laneOverflow : Bool
  accessRefused : Bool
  commandOverrun : Bool
  deriving DecidableEq, Repr

/-- The buffer memory: the bytes written since power-on, by address, in strictly rising order. An address not listed
has not been written. -/
abbrev Memory := List Host.Cell

/-! ## The state -/

/-- The whole state of the part, and the queue of commands that wait for it. -/
structure State where
  /-- The 32 records; `none` is a FREE record (R1). -/
  stations : Vector (Option StationRecord) 32
  /-- The notice list, the head first (R155). -/
  noticeList : List StationNo
  /-- The talk seat (R59). -/
  talkSeat : Option Place
  /-- The listen lanes 0 to 3 (R59). -/
  lanes : Vector (Option Place) 4
  /-- The hold list with each station's pending hold, the oldest first (R76). -/
  holds : List Hold
  /-- The hold tag counter (R78). -/
  holdTag : Byte
  /-- The hold limit in milliseconds, 0 for no limit (R79). -/
  holdLimit : Byte
  /-- The private frame copy (R81). -/
  privateCopy : Option PrivateCopy
  /-- The frame stage (R102). -/
  stage : Option Stage
  /-- The remote-enable flag (R138). -/
  remoteEnable : Bool
  /-- The lockout-in-force flag (R138). -/
  lockout : Bool
  /-- The forced flags of the trigger lines (R151). -/
  forced : Vector Bool 4
  /-- The attach state: ATTACHED (section 2.7). -/
  attached : Bool
  /-- The frame in reception (section 2.1). -/
  reception : Reception
  /-- The reply made up and not yet begun (R35). -/
  replyWaiting : Option ReplyFrame
  /-- The reply being sent, LTXEN asserted (R35). -/
  replySending : Option ReplyFrame
  /-- The command engine (section 11.2). -/
  engine : Engine
  /-- RESULT (R169). -/
  result : ResultCode
  /-- The parameter block (R171). -/
  params : ParamBlock
  /-- PARAM_INDEX (R171). -/
  paramIndex : Fin 32
  /-- The data pointer, 13 bits (R173). -/
  dataPointer : BitVec 13
  /-- IRQ_ENABLE: bit 0 NOTICES, bit 1 HOLDS, bit 2 DONE, bit 3 DEVICE (R162). -/
  irqEnable : BitVec 4
  /-- The device notice flags (R160). -/
  device : DeviceNotices
  /-- FAULT_KIND, `none` for 0 none captured (R32). -/
  faultKind : Option FaultKind
  /-- DENIED_STATION (R65). -/
  deniedStation : StationNo
  /-- REFUSED_ADDR_LO and REFUSED_ADDR_HI (R175). -/
  refusedAddress : BitVec 13
  /-- The buffer memory (section 11.4). -/
  memory : Memory
  /-- NRST is held low: the host port takes no access (R166). -/
  nrstLow : Bool
  /-- The byte the last read access drove on D0–D7, `none` when it drove nothing (R166). -/
  readData : Option Byte
  /-- The model's own: how many power-ons there have been, which the free contents of memory depend on (log entry 1). -/
  powerOns : Nat
  /-- The model's own: how many unstated result bytes have been given (log entry 2). -/
  freeCount : Nat
  /-- The commands that wait, first in first out. -/
  pending : List Instr
  deriving DecidableEq, Repr

/-- The state right after a hardware reset at power-on, NRST released (R1, R39, R59, R94, R112, R126, R138, R153,
R164, R179): every record FREE, DETACHED, every list empty, the hold limit 20. -/
def State.reset : State where
  stations := Vector.replicate 32 none
  noticeList := []
  talkSeat := none
  lanes := Vector.replicate 4 none
  holds := []
  holdTag := 0
  holdLimit := 20
  privateCopy := none
  stage := none
  remoteEnable := false
  lockout := false
  forced := Vector.replicate 4 false
  attached := false
  reception := .awaitingGap
  replyWaiting := none
  replySending := none
  engine := .idle
  result := .noneYet
  params := Vector.replicate 32 0
  paramIndex := 0
  dataPointer := 0
  irqEnable := 0
  device := ⟨false, false, false, false, false⟩
  faultKind := none
  deniedStation := 0
  refusedAddress := 0
  memory := []
  nrstLow := false
  readData := none
  powerOns := 0
  freeCount := 0
  pending := []

/-! ## Stops -/

/-- The faults of the machine: none. Every address of the data pointer exists (R173) and every command has an effect
or is ignored by a rule, so no step of this block ends in a fault. -/
inductive Fault where
  deriving DecidableEq, Repr

/-- The refusals of the machine. -/
inductive Refusal where
  /-- Raised by an arm of `exec` for a command that has no meaning yet: safe, since the step stops. No arm does. -/
  | notModelled (mnemonic : String)
  deriving DecidableEq, Repr

end Sys2Proof.Machine
end

