-- ==== Sys2Proof/Machine/Ops.lean ====
section
/-! DEFINITION. The named operations over the station table, the route, the holds, the stage, the notices and buffer memory, which
the meanings of the commands share. -/

namespace Sys2Proof.Machine

/-- The station numbers in ascending order. -/
def stationNumbers : List StationNo := List.finRange 32

/-- The lane numbers in lane order. -/
def laneNumbers : List LaneNo := [0, 1, 2, 3]

/-! ## Records -/

/-- The record of a station, `none` when it is FREE (R1). -/
def State.record (s : State) (n : StationNo) : Option StationRecord := s.stations.get n

/-- Replace a station's record. -/
def State.setRecord (s : State) (n : StationNo) (r : Option StationRecord) : State :=
  { s with stations := s.stations.set n r }

/-- Change the fields of a record that is not FREE. -/
def State.updateRecord (s : State) (n : StationNo) (f : StationRecord → StationRecord) : State :=
  s.setRecord n ((s.record n).map f)

/-- Apply a change station by station, in the order of the list, each seeing the effect of those before it. -/
def State.forStations (s : State) (ns : List StationNo) (f : StationNo → State → State) : State :=
  ns.foldl (fun t n => f n t) s

/-- Whether the station's record is in the life state. -/
def State.hasLife (s : State) (n : StationNo) (l : LifeState) : Bool :=
  match s.record n with
  | none => false
  | some r => decide (r.life = l)

/-- Whether the station is ONLINE. -/
def State.isOnline (s : State) (n : StationNo) : Bool := s.hasLife n .online

/-- Whether the station is ONLINE or RETIRING. -/
def State.isLive (s : State) (n : StationNo) : Bool := s.hasLife n .online || s.hasLife n .retiring

/-- The record of a station that is ONLINE with a property of its options. -/
def State.onlineWith (s : State) (n : StationNo) (p : StationRecord → Bool) : Bool :=
  match s.record n with
  | none => false
  | some r => decide (r.life = .online) && p r

/-! ## Notices (R154, R155) -/

/-- The empty notice set. -/
def NoticeSet.none : NoticeSet :=
  ⟨false, false, false, false, false, false, false, false, false, false, false⟩

/-- Whether the set holds the kind. -/
def NoticeSet.has (ns : NoticeSet) : NoticeKind → Bool
  | .inboundComplete => ns.inboundComplete
  | .outboundDone => ns.outboundDone
  | .dataLost => ns.dataLost
  | .polled => ns.polled
  | .modeChanged => ns.modeChanged
  | .cleared => ns.cleared
  | .triggered => ns.triggered
  | .seatDenied => ns.seatDenied
  | .holdExpired => ns.holdExpired
  | .holdWithdrawn => ns.holdWithdrawn
  | .retired => ns.retired

/-- The set with the kind added; a kind already present leaves it as it is (R154). -/
def NoticeSet.add (ns : NoticeSet) : NoticeKind → NoticeSet
  | .inboundComplete => { ns with inboundComplete := true }
  | .outboundDone => { ns with outboundDone := true }
  | .dataLost => { ns with dataLost := true }
  | .polled => { ns with polled := true }
  | .modeChanged => { ns with modeChanged := true }
  | .cleared => { ns with cleared := true }
  | .triggered => { ns with triggered := true }
  | .seatDenied => { ns with seatDenied := true }
  | .holdExpired => { ns with holdExpired := true }
  | .holdWithdrawn => { ns with holdWithdrawn := true }
  | .retired => { ns with retired := true }

/-- Whether the set holds no kind. -/
def NoticeSet.isEmpty (ns : NoticeSet) : Bool := decide (ns = NoticeSet.none)

/-- Give a station a new notice set in one change of the set: a station whose set was empty joins the notice list at
the tail, and one whose set was not empty stays where it stands (R155). -/
def State.changeNotices (s : State) (n : StationNo) (f : NoticeSet → NoticeSet) : State :=
  match s.record n with
  | none => s
  | some r =>
    { s.setRecord n (some { r with notices := f r.notices }) with
      noticeList := if r.notices.isEmpty then s.noticeList ++ [n] else s.noticeList }

/-- Add a notice of a kind to a station (R154, R155). -/
def State.addNotice (s : State) (n : StationNo) (k : NoticeKind) : State :=
  s.changeNotices n (fun ns => ns.add k)

/-! ## The route (section 4.1) -/

/-- A station's place in the route, as the seat field of its record shows it (R60). -/
inductive Seat where
  | none
  | talker (tentative : Bool)
  | lane (lane : LaneNo) (tentative : Bool)
  deriving DecidableEq, Repr

/-- The occupant of a lane. -/
def State.lane (s : State) (i : LaneNo) : Option Place := s.lanes.get i

/-- Replace the occupant of a lane. -/
def State.setLane (s : State) (i : LaneNo) (p : Option Place) : State :=
  { s with lanes := s.lanes.set i p }

/-- Whether a place holds the station, tentatively or seated. -/
def placeHolds (p : Option Place) (n : StationNo) : Bool :=
  match p with
  | none => false
  | some q => decide (q.station = n)

/-- The lane that holds the station, if one does. -/
def State.laneOf (s : State) (n : StationNo) : Option LaneNo :=
  laneNumbers.find? (fun i => placeHolds (s.lane i) n)

/-- The tentative mark of a place. -/
def placeTentative (p : Option Place) : Bool :=
  match p with
  | none => false
  | some q => q.tentative

/-- The seat field of a station (R60): its place among the talk seat and the lanes. -/
def State.seatOf (s : State) (n : StationNo) : Seat :=
  if placeHolds s.talkSeat n then .talker (placeTentative s.talkSeat)
  else match s.laneOf n with
    | some i => .lane i (placeTentative (s.lane i))
    | none => .none

/-- Whether the station holds the talk seat or a lane, seated or tentative. -/
def State.hasPlace (s : State) (n : StationNo) : Bool :=
  placeHolds s.talkSeat n || laneNumbers.any (fun i => placeHolds (s.lane i) n)

/-- A place once a station has left it. -/
def vacate (p : Option Place) (n : StationNo) : Option Place :=
  if placeHolds p n then none else p

/-- The station leaves every place it holds; the other places keep their occupants and their numbers (R68, R71). -/
def State.freePlaces (s : State) (n : StationNo) : State :=
  laneNumbers.foldl (fun t i => t.setLane i (vacate (t.lane i) n))
    { s with talkSeat := vacate s.talkSeat n }

/-- All five places emptied, without notices (R62, R70). -/
def State.emptyRoute (s : State) : State :=
  { s with talkSeat := none, lanes := Vector.replicate 4 none }

/-- The accepted port of the station becomes absent, if it is OPEN and ONLINE or RETIRING (R56). -/
def State.clearAcceptedPort (n : StationNo) (s : State) : State :=
  s.updateRecord n (fun r =>
    if r.policy = .openPort ∧ r.life ≠ .retired then { r with acceptedPort := none } else r)

/-- The accepted port of every OPEN station that is ONLINE or RETIRING becomes absent (R56, R62). -/
def State.clearAcceptedPorts (s : State) : State :=
  s.forStations stationNumbers State.clearAcceptedPort

/-- The station a place seats; a tentative place seats none (R52). -/
def seatedIn (p : Option Place) : Option StationNo :=
  match p with
  | some ⟨n, false⟩ => some n
  | _ => none

/-- The stations seated in lanes, in lane order (R52). -/
def State.listeners (s : State) : List StationNo :=
  laneNumbers.filterMap (fun i => seatedIn (s.lane i))

/-- The ONLINE stations seated in lanes, in lane order: the targets of the group frames (R52). -/
def State.onlineListeners (s : State) : List StationNo :=
  s.listeners.filter s.isOnline

/-! ## Control modes (R66) -/

/-- The remote transition of a station just seated as a listener: while the remote-enable flag is set, LOCAL becomes
REMOTE and LOCAL_LOCKED becomes REMOTE_LOCKED, each with MODE_CHANGED (R66). -/
def State.remoteTransition (s : State) (n : StationNo) : State :=
  match s.record n with
  | none => s
  | some r =>
    if s.remoteEnable = false then s
    else match r.mode with
      | .unlockedLocal =>
        (s.updateRecord n (fun r => { r with mode := .unlockedRemote })).addNotice n .modeChanged
      | .lockedLocal =>
        (s.updateRecord n (fun r => { r with mode := .lockedRemote })).addNotice n .modeChanged
      | .unlockedRemote => s
      | .lockedRemote => s

/-! ## Holds (sections 5.1 to 5.3) -/

/-- The station's pending hold (R75, R76). -/
def State.pendingHold (s : State) (n : StationNo) : Option Hold :=
  s.holds.find? (fun h => decide (h.station = n))

/-- The timer a hold or a stage starts with at the hold limit in force: untimed for 0 (R79, R80, R104). -/
def State.startTimer (s : State) : Option Nat :=
  if s.holdLimit = 0 then none else some s.holdLimit.toNat

/-- Raise a hold: it takes the tag counter's value, starts its timer at the limit in force and goes to the tail of the
list, and the counter advances from 255 to 0 (R77, R78). -/
def State.raiseHold (s : State) (n : StationNo) (k : HoldKind) : State :=
  { s with
    holds := s.holds ++ [{ station := n, kind := k, tag := s.holdTag, remaining := s.startTimer }]
    holdTag := s.holdTag + 1 }

/-- Take a station's hold out of the list; the stations behind it close up (R76). -/
def State.removeHold (s : State) (n : StationNo) : State :=
  { s with holds := s.holds.filter (fun h => decide (h.station ≠ n)) }

/-- Discard the private frame copy if no PRIVATE hold remains (R81, R88). -/
def State.discardPrivateCopy (s : State) : State :=
  if s.holds.any (fun h => decide (h.kind = .privateFrame)) then s else { s with privateCopy := none }

/-! ## The stage (section 6.3) -/

/-- Whether the station is owed the staged frame (R102). -/
def State.isOwed (s : State) (n : StationNo) : Bool :=
  match s.stage with
  | none => false
  | some g => decide (n ∈ g.owed)

/-- The station leaves the owed set; the stage becomes empty with its set (R102). -/
def State.leaveOwed (s : State) (n : StationNo) : State :=
  match s.stage with
  | none => s
  | some g =>
    let rest := g.owed.filter (fun m => decide (m ≠ n))
    { s with stage := if rest = [] then none else some { g with owed := rest } }

/-! ## Retirement (section 1.5) -/

/-- Whether the station has a seat, a pending hold or a stage obligation (R19). -/
def State.hasObligation (s : State) (n : StationNo) : Bool :=
  s.hasPlace n || (s.pendingHold n).isSome || s.isOwed n

/-- The notice set of a station that becomes RETIRED: TRIGGERED removed and RETIRED added (R23). -/
def retiredNotices (ns : NoticeSet) : NoticeSet := { ns with triggered := false, retired := true }

/-- The steps of R23, by which a station becomes RETIRED. -/
def State.becomeRetired (s : State) (n : StationNo) : State :=
  (s.updateRecord n (fun r => { r with
    life := .retired
    inbound := .empty
    mode := .unlockedLocal
    inRegion := none
    outRegion := none
    lastMatched := none
    acceptedPort := none })).changeNotices n retiredNotices

/-- A report of R20 to the station table: a RETIRING station left with no seat, no pending hold and no stage
obligation becomes RETIRED (R21). -/
def State.reportRelease (n : StationNo) (s : State) : State :=
  if s.hasLife n .retiring && !s.hasObligation n then s.becomeRetired n else s

/-- The three steps RETIRE STATION first takes on an ONLINE station: the request state becomes QUIET, the outbound
EMPTY, and (with its life state, which the caller sets) the station stops matching (R18). -/
def State.quietStation (s : State) (n : StationNo) : State :=
  s.updateRecord n (fun r => { r with request := .quiet, outbound := .empty })

/-! ## Buffer memory (section 11.4) -/

/-- The byte at an address, `none` when nothing has written it since power-on. -/
def Memory.read : Memory → Nat → Option Byte
  | [], _ => none
  | (x, v) :: m, a => if a = x then some v else Memory.read m a

/-- Store a byte, keeping the addresses strictly rising. -/
def Memory.write : Memory → Nat → Byte → Memory
  | [], a, b => [(a, b)]
  | (x, v) :: m, a, b =>
    if a < x then (a, b) :: (x, v) :: m
    else if a = x then (a, b) :: m
    else (x, v) :: Memory.write m a b

/-- Store bytes at consecutive addresses. -/
def Memory.writeList : Memory → Nat → List Byte → Memory
  | m, _, [] => m
  | m, a, b :: bs => Memory.writeList (Memory.write m a b) (a + 1) bs

/-- The canonical form of a memory whose addresses are all at least `low`: strictly rising, below 8,192. -/
def Memory.wfFrom : Nat → Memory → Bool
  | _, [] => true
  | low, (x, _) :: m => decide (low ≤ x) && decide (x < 8192) && Memory.wfFrom (x + 1) m

/-- The canonical form of the memory: addresses strictly rising and within the 8 KiB of section 11.4. -/
def Memory.wf (m : Memory) : Bool := Memory.wfFrom 0 m

/-- What a read of buffer memory finds at an address: the byte last written there, or, where nothing has been written
since power-on, a free value (R177, log entry 1). -/
def State.readByte (s : State) (a : Nat) : Byte :=
  match Memory.read s.memory a with
  | some v => v
  | none => Config.powerOnByte s.powerOns a

/-- The bytes of buffer memory at consecutive addresses. -/
def State.readBytes (s : State) (a len : Nat) : List Byte :=
  (List.range len).map (fun i => s.readByte (a + i))

/-- The address of a region's first byte: page number × 32 (R96, R114). -/
def Region.base (g : Region) : Nat := g.first.val * 32

/-- A region's capacity: its page count × 32 bytes (R4). -/
def Region.capacity (g : Region) : Nat := g.count * 32

/-- Whether an address lies in a region. -/
def Region.contains (g : Region) (a : Nat) : Bool :=
  decide (g.base ≤ a) && decide (a < g.base + g.capacity)

/-- Whether two regions share a page (R13). -/
def Region.overlaps (g h : Region) : Bool :=
  decide (g.first.val < h.first.val + h.count) && decide (h.first.val < g.first.val + g.count)

/-- Whether an optional region contains an address. -/
def regionContains (g : Option Region) (a : Nat) : Bool :=
  match g with
  | none => false
  | some g => g.contains a

/-- The first address of an optional region, 0 when it is absent. -/
def regionBase (g : Option Region) : Nat :=
  match g with
  | none => 0
  | some g => g.base

/-- The capacity of an optional region, 0 when it is absent. -/
def regionCapacity (g : Option Region) : Nat :=
  match g with
  | none => 0
  | some g => g.capacity

/-! ## Inbound and outbound parts (R95, R113) -/

/-- The fill length (R95). -/
def Inbound.fill : Inbound → Nat
  | .empty => 0
  | .filling n => n
  | .complete n _ => n

/-- The continues mark (R95). -/
def Inbound.continues : Inbound → Bool
  | .complete _ c => c
  | _ => false

/-- Whether the inbound is COMPLETE, so that the host owns its region (R95). -/
def Inbound.isComplete : Inbound → Bool
  | .complete _ _ => true
  | _ => false

/-- A FILLING inbound becomes EMPTY; any other stays as it is (R108, R111). -/
def Inbound.dropFilling : Inbound → Inbound
  | .filling _ => .empty
  | i => i

/-- The posted length (R113). -/
def Outbound.postedLength : Outbound → Nat
  | .empty => 0
  | .posted n _ => n
  | .sending n _ _ => n
  | .closing n _ _ => n

/-- The end flag (R113). -/
def Outbound.endFlag : Outbound → Bool
  | .empty => false
  | .posted _ e => e
  | .sending _ e _ => e
  | .closing _ e _ => e

/-- The cursor (R113). -/
def Outbound.cursor : Outbound → Nat
  | .sending _ _ c => c
  | .closing _ _ c => c
  | _ => 0

/-- Whether the outbound is EMPTY, so that the host owns its region (R113). -/
def Outbound.isEmpty : Outbound → Bool
  | .empty => true
  | _ => false

/-- The outbound through a RESET LINK frame or a DETACH: SENDING is rewound to POSTED, CLOSING is settled as EMPTY
(R122). -/
def Outbound.rewind : Outbound → Outbound
  | .sending n e _ => .posted n e
  | .closing _ _ _ => .empty
  | o => o

/-- Whether a RESET LINK frame or a DETACH settles the outbound with OUTBOUND_DONE (R122). -/
def Outbound.isClosing : Outbound → Bool
  | .closing _ _ _ => true
  | _ => false

/-- Whether a byte of buffer memory is part-owned through a station: it lies in the inbound region of an ONLINE or
RETIRING station whose inbound is EMPTY or FILLING, or in the outbound region of one whose outbound is POSTED, SENDING
or CLOSING (R174). -/
def StationRecord.partOwns (r : StationRecord) (a : Nat) : Bool :=
  decide (r.life ≠ .retired) &&
    ((regionContains r.inRegion a && !r.inbound.isComplete) ||
      (regionContains r.outRegion a && !r.outbound.isEmpty))

/-- Whether the part owns the byte at an address; every other byte is host-owned (R174). -/
def State.partOwned (s : State) (a : Nat) : Bool :=
  stationNumbers.any (fun n =>
    match s.record n with
    | none => false
    | some r => r.partOwns a)

/-! ## Clear effects (R146) -/

/-- The clear effects on a station and the CLEARED notice that follows them: a FILLING inbound becomes EMPTY and a
non-EMPTY outbound becomes EMPTY without OUTBOUND_DONE (R111, R123, R146). -/
def State.clearStation (s : State) (n : StationNo) : State :=
  (s.updateRecord n (fun r => { r with inbound := r.inbound.dropFilling, outbound := .empty })).addNotice n .cleared

end Sys2Proof.Machine
end

