-- ==== Sys2Proof/Machine/Flags.lean ====
section
/-! DEFINITION. The conditions the part computes from its state: the drives of LBUSY and LREQ, the trigger levels, NIRQ and its
causes, and the setting of the device notice flags. -/

namespace Sys2Proof.Machine

/-- A Bool as a byte with the bit at a position. -/
def bitAt (b : Bool) (i : Nat) : Byte := if b then (1 : Byte) <<< i else 0

/-! ## The wired lines (section 2.6) -/

/-- The TL632's own drive of LBUSY: ATTACHED, and a hold is pending or the stage owes its frame (R37). -/
def State.lbusy (s : State) : Bool := s.attached && (!s.holds.isEmpty || s.stage.isSome)

/-- Whether some ONLINE station is ASKING (R128). -/
def State.someAsking (s : State) : Bool :=
  stationNumbers.any (fun n => s.onlineWith n (fun r => decide (r.request = .asking)))

/-- The TL632's own drive of LREQ: ATTACHED, and an ONLINE station is ASKING (R38). -/
def State.lreq (s : State) : Bool := s.attached && s.someAsking

/-- LTXEN is asserted while a reply is being sent (R25, R35). -/
def State.ltxen (s : State) : Bool := s.replySending.isSome

/-! ## The trigger lines (R150) -/

/-- Whether a record contributes to a line: ONLINE or RETIRING, with that trigger line and TRIGGERED unread. -/
def StationRecord.drives (r : StationRecord) (l : LineNo) : Bool :=
  decide (r.life ≠ .retired) && decide (r.triggerLine = some l) && r.notices.triggered

/-- The level of a trigger line: its forced flag, or a station's unread TRIGGERED (R150). -/
def State.triggerLevel (s : State) (l : LineNo) : Bool :=
  s.forced.get l ||
    stationNumbers.any (fun n =>
      match s.record n with
      | none => false
      | some r => r.drives l)

/-! ## Interrupts (R162) -/

/-- Whether a device notice flag is set. -/
def DeviceNotices.anySet (d : DeviceNotices) : Bool :=
  d.linkResetSeen || d.linkFault || d.laneOverflow || d.accessRefused || d.commandOverrun

/-- The four causes present, enabled or not: bit 0 NOTICES, bit 1 HOLDS, bit 2 DONE, bit 3 DEVICE (R162, R165). -/
def State.causes (s : State) : BitVec 4 :=
  (if s.noticeList = [] then 0 else 1) |||
  (if s.holds = [] then 0 else 2) |||
  (if s.engine = .done then 4 else 0) |||
  (if s.device.anySet then 8 else 0)

/-- NIRQ is asserted (low) while an enabled cause is present (R162). -/
def State.nirqAsserted (s : State) : Bool := decide (s.irqEnable &&& s.causes ≠ 0)

/-! ## Device notices (R160) -/

/-- A frame discarded at reception reports its fault kind: the first since the flag was last clear is kept (R32). -/
def State.linkFault (s : State) (k : FaultKind) : State :=
  if s.device.linkFault then s
  else { s with device := { s.device with linkFault := true }, faultKind := some k }

/-- A denial for want of a lane: the first station since the flag was last clear is kept (R65). -/
def State.laneOverflow (s : State) (n : StationNo) : State :=
  if s.device.laneOverflow then s
  else { s with device := { s.device with laneOverflow := true }, deniedStation := n }

/-- A refused data-port access: the first address since the flag was last clear is kept (R175). -/
def State.accessRefused (s : State) (a : BitVec 13) : State :=
  if s.device.accessRefused then s
  else { s with device := { s.device with accessRefused := true }, refusedAddress := a }

/-- A write refused while the engine is BUSY sets COMMAND_OVERRUN (R170). -/
def State.commandOverrun (s : State) : State :=
  { s with device := { s.device with commandOverrun := true } }

/-- A RESET LINK frame taken sets LINK_RESET_SEEN (R44). -/
def State.linkResetSeen (s : State) : State :=
  { s with device := { s.device with linkResetSeen := true } }

/-- The device notice flags as DEVICE_NOTICE reads them (R165). -/
def DeviceNotices.byte (d : DeviceNotices) : Byte :=
  bitAt d.linkResetSeen 0 ||| bitAt d.linkFault 1 ||| bitAt d.laneOverflow 2 ||| bitAt d.accessRefused 3 |||
    bitAt d.commandOverrun 4

/-- The flags after a write to DEVICE_NOTICE: each flag whose bit is one is cleared (R161). -/
def DeviceNotices.clear (d : DeviceNotices) (v : Byte) : DeviceNotices where
  linkResetSeen := d.linkResetSeen && !v.getLsbD 0
  linkFault := d.linkFault && !v.getLsbD 1
  laneOverflow := d.laneOverflow && !v.getLsbD 2
  accessRefused := d.accessRefused && !v.getLsbD 3
  commandOverrun := d.commandOverrun && !v.getLsbD 4

end Sys2Proof.Machine
end

