-- ==== Sys2Proof/Machine/Operands.lean ====
section
/-! DEFINITION. How bytes are read as operands and written as results: the check and the bodies of link frames, the fields of the
parameter block, and the result bytes of the commands. -/

namespace Sys2Proof.Machine

/-! ## The check of a link frame (R27) -/

/-- One step of the division: shift one place towards the most significant end; if the bit shifted out was 1, combine
with 0x07. -/
def checkStep (r : Byte) : Byte := if r.getLsbD 7 then (r <<< 1) ^^^ 0x07 else r <<< 1

/-- Combine a byte with the remainder and take eight steps. -/
def checkByte (r b : Byte) : Byte :=
  checkStep (checkStep (checkStep (checkStep (checkStep (checkStep (checkStep (checkStep (r ^^^ b))))))))

/-- The check over a frame's bytes, started from 0x00 (R27). -/
def linkCheck (bytes : List Byte) : Byte := bytes.foldl checkByte 0

/-- The bytes of a frame as sent: type, length, body and check (R26, R27). -/
def frameBytes (type : Byte) (body : List Byte) : List Byte :=
  let head := type :: BitVec.ofNat 8 body.length :: body
  head ++ [linkCheck head]

/-- The type and the body of a frame the part sends (the frame layout table of section 2.3). -/
def ReplyFrame.parts : ReplyFrame → Byte × List Byte
  | .reply e n data => (0x38, (bitAt e 0 ||| bitAt n 1) :: data)
  | .status m b => (0x48, [bitAt m 7 ||| b.setWidth 8])

/-- The bytes of a REPLY or STATUS frame on the line (R35, R133). -/
def ReplyFrame.bytes (f : ReplyFrame) : List Byte := frameBytes f.parts.1 f.parts.2

/-! ## Addresses (R28) -/

/-- The address two body bytes carry, `none` when they break R28. With unit 127 the port byte is not examined. -/
def decodeAddress (a : AddressBytes) : Option Address :=
  if h : a.unitByte.toNat < 128 then
    let unit : LinkUnit := ⟨a.unitByte.toNat, h⟩
    if unit = 127 then some ⟨unit, none⟩
    else if a.portByte &&& 0x70 ≠ 0 then none
    else if a.portByte.getLsbD 7 then some ⟨unit, some (Fin.ofNat 16 a.portByte.toNat)⟩
    else if a.portByte = 0 then some ⟨unit, none⟩
    else none
  else none

/-- A port in the port byte form of R28: the port-present mark in bit 7, the port in bits 3–0. -/
def portByte (p : Option LinkPort) : Byte :=
  match p with
  | none => 0
  | some q => 0x80 ||| BitVec.ofNat 8 q.val

/-! ## Controller frames (R29, R30) -/

/-- A controller frame whose body suits its kind. The listener list of a ROUTE is what the part examines: the entries
before the first of unit 127 (R30, R51). -/
inductive ControllerFrame where
  | route (talker : Address) (listeners : List Address)
  | data (endMark : Bool) (body : List Byte)
  | fetch
  | poll (address : Address)
  | clear (scope : ClearScope)
  | trigger
  | remote (on : Bool)
  | lockout
  | localFrame
  | resetLink
  | privateFrame (code : BitVec 6) (body : List Byte)
  deriving DecidableEq, Repr

/-- The listener entries the part examines, up to the first of unit 127; `none` when one of them is unsound (R30). -/
def examineListeners : List AddressBytes → Option (List Address)
  | [] => some []
  | a :: rest =>
    match decodeAddress a with
    | none => none
    | some d =>
      if d.unit = 127 then some []
      else match examineListeners rest with
        | none => none
        | some ds => some (d :: ds)

/-- A ROUTE frame by its addresses: it suits its kind when there are at most eight entries and the addresses examined
are sound (R30). -/
def routeFrame (talker : AddressBytes) (listeners : List AddressBytes) : Option ControllerFrame :=
  if listeners.length ≤ 8 then
    match decodeAddress talker, examineListeners listeners with
    | some t, some ls => some (.route t ls)
    | _, _ => none
  else none

/-- A DATA frame: up to 32 body bytes, and none only with the end mark (R30). -/
def dataFrame (endMark : Bool) (body : List Byte) : Option ControllerFrame :=
  if body.length ≤ 32 ∧ (endMark = true ∨ body ≠ []) then some (.data endMark body) else none

/-- A POLL frame: its address must be sound (R30). -/
def pollFrame (address : AddressBytes) : Option ControllerFrame :=
  match decodeAddress address with
  | some a => some (.poll a)
  | none => none

/-- A PRIVATE frame: up to 12 body bytes (R30). -/
def privateLinkFrame (code : BitVec 6) (body : List Byte) : Option ControllerFrame :=
  if body.length ≤ 12 then some (.privateFrame code body) else none

/-- Bytes taken two by two as addresses; `none` for an odd count. -/
def addressPairs : List Byte → Option (List AddressBytes)
  | [] => some []
  | [_] => none
  | u :: p :: rest =>
    match addressPairs rest with
    | none => none
    | some as => some (⟨u, p⟩ :: as)

/-- A ROUTE body: the talker address, the listener count n, and n addresses (section 2.3). -/
def routeBody : List Byte → Option ControllerFrame
  | u :: p :: n :: rest =>
    match addressPairs rest with
    | none => none
    | some ls => if ls.length = n.toNat then routeFrame ⟨u, p⟩ ls else none
  | _ => none

/-- A frame of a kind that has no body. -/
def bodiless (body : List Byte) (f : ControllerFrame) : Option ControllerFrame :=
  if body = [] then some f else none

/-- Whether a type byte is that of a responder frame: 0x38 REPLY or 0x48 STATUS (R31). -/
def responderType (type : Byte) : Bool := decide (type = 0x38 ∨ type = 0x48)

/-- Whether a type byte is in the table of frame kinds (R29). -/
def typeKnown (type : Byte) : Bool :=
  decide (type ∈ [(0x10 : Byte), 0x20, 0x21, 0x30, 0x38, 0x40, 0x48, 0x60, 0x68, 0x70, 0x74, 0x78, 0x7F]) ||
    decide (0x80 ≤ type.toNat ∧ type.toNat ≤ 0xBF)

/-- A controller frame of a known kind by its type and body, `none` when the body does not suit the kind (R30). -/
def parseFrame (type : Byte) (body : List Byte) : Option ControllerFrame :=
  if type = 0x10 then routeBody body
  else if type = 0x20 then dataFrame false body
  else if type = 0x21 then dataFrame true body
  else if type = 0x30 then bodiless body .fetch
  else if type = 0x40 then
    match body with
    | [u, p] => pollFrame ⟨u, p⟩
    | _ => none
  else if type = 0x60 then
    match body with
    | [b] => if b = 0 then some (.clear .all) else if b = 1 then some (.clear .listeners) else none
    | _ => none
  else if type = 0x68 then bodiless body .trigger
  else if type = 0x70 then
    match body with
    | [b] => if b = 0 then some (.remote false) else if b = 1 then some (.remote true) else none
    | _ => none
  else if type = 0x74 then bodiless body .lockout
  else if type = 0x78 then bodiless body .localFrame
  else if type = 0x7F then bodiless body .resetLink
  else if 0x80 ≤ type.toNat ∧ type.toNat ≤ 0xBF then privateLinkFrame (type.setWidth 6) body
  else none

/-! ## Runs of characters (R26) -/

/-- What a run of characters is: damaged in its shape, or a frame of type, body and check byte with the characters
that follow the check byte. -/
inductive RunShape where
  | damaged
  | frame (type : Byte) (body : List Byte) (check : Byte) (after : List LinkChar)
  deriving DecidableEq, Repr

/-- The shape of a run that began after an idle gap and has ended: the type, the length, that many body bytes and one
check byte, each with its stop bit high; anything less is one damaged frame (R26). -/
def runShape : List LinkChar → RunShape
  | t :: l :: rest =>
    let n := l.byte.toNat
    let frame := t :: l :: rest.take (n + 1)
    match (rest.drop n).head? with
    | some c =>
      if n ≤ 40 ∧ frame.all (fun x => x.stopHigh) then
        .frame t.byte ((rest.take n).map (fun x => x.byte)) c.byte (rest.drop (n + 1))
      else .damaged
    | none => .damaged
  | _ => .damaged

/-! ## The codes of the enumerated fields (R172) -/

/-- A station number field: 0 to 31 (R8). -/
def stationField (b : Byte) : Option StationNo :=
  if h : b.toNat < 32 then some ⟨b.toNat, h⟩ else none

/-- A station number as a byte. -/
def stationByte (n : StationNo) : Byte := BitVec.ofNat 8 n.val

/-- The match width of a code: 0 EXACT, 1 PAIR, 2 QUAD. -/
def widthField (b : Byte) : Option MatchWidth :=
  if b = 0 then some .exact else if b = 1 then some .pair else if b = 2 then some .quad else none

/-- The code of a match width. -/
def MatchWidth.code : MatchWidth → Byte
  | .exact => 0
  | .pair => 1
  | .quad => 2

/-- The code of a port policy: 0 NONE, 1 FIXED, 2 OPEN. -/
def PortPolicy.code : PortPolicy → Byte
  | .noPort => 0
  | .fixed _ => 1
  | .openPort => 2

/-- The port of a FIXED policy, in bits 7–4 of READ STATION byte 3. -/
def PortPolicy.portBits : PortPolicy → Byte
  | .fixed p => BitVec.ofNat 8 p.val <<< 4
  | _ => 0

/-- The code of a life state: 1 ONLINE, 2 RETIRING, 3 RETIRED (0 is FREE). -/
def LifeState.code : LifeState → Byte
  | .online => 1
  | .retiring => 2
  | .retired => 3

/-- The code of a request state. -/
def RequestState.code : RequestState → Byte
  | .quiet => 0
  | .asking => 1
  | .answered => 2

/-- The code of a control mode: 0 LOCAL, 1 REMOTE, 2 LOCAL_LOCKED, 3 REMOTE_LOCKED. -/
def ControlMode.code : ControlMode → Byte
  | .unlockedLocal => 0
  | .unlockedRemote => 1
  | .lockedLocal => 2
  | .lockedRemote => 3

/-- READ STATION byte 16: the inbound state in bits 1–0 and the continues mark in bit 7. -/
def Inbound.byte : Inbound → Byte
  | .empty => 0
  | .filling _ => 1
  | .complete _ c => 2 ||| bitAt c 7

/-- The code of an outbound state. -/
def Outbound.code : Outbound → Byte
  | .empty => 0
  | .posted _ _ => 1
  | .sending _ _ _ => 2
  | .closing _ _ _ => 3

/-- The code of a hold kind; 0 is an absent hold. -/
def HoldKind.code : HoldKind → Byte
  | .port _ _ => 1
  | .clear _ => 2
  | .trigger => 3
  | .endOfMessage => 4
  | .privateFrame => 5

/-- A trigger line field: 0 to 3, or 0xFF for absent; `none` when the field fails. -/
def triggerField (b : Byte) : Option (Option LineNo) :=
  if b = 0xFF then some none
  else if h : b.toNat < 4 then some (some ⟨b.toNat, h⟩) else none

/-- A trigger line as a byte. -/
def triggerByte (l : Option LineNo) : Byte :=
  match l with
  | none => 0xFF
  | some l => BitVec.ofNat 8 l.val

/-- A hold options byte; bits 7–4 are ignored. -/
def optionsField (b : Byte) : HoldOptions where
  onClear := b.getLsbD 0
  onTrigger := b.getLsbD 1
  onEnd := b.getLsbD 2
  passPrivate := b.getLsbD 3

/-- The hold options as a byte. -/
def HoldOptions.byte (o : HoldOptions) : Byte :=
  bitAt o.onClear 0 ||| bitAt o.onTrigger 1 ||| bitAt o.onEnd 2 ||| bitAt o.passPrivate 3

/-- The low byte of a number of two bytes. -/
def lowByte (n : Nat) : Byte := BitVec.ofNat 8 n

/-- The high byte of a number of two bytes. -/
def highByte (n : Nat) : Byte := BitVec.ofNat 8 (n / 256)

/-- A notice set as two bytes, one bit for each kind: the low byte (R172). -/
def NoticeSet.lowByte (ns : NoticeSet) : Byte :=
  bitAt ns.inboundComplete 0 ||| bitAt ns.outboundDone 1 ||| bitAt ns.dataLost 2 ||| bitAt ns.polled 3 |||
    bitAt ns.modeChanged 4 ||| bitAt ns.cleared 5 ||| bitAt ns.triggered 6 ||| bitAt ns.seatDenied 7

/-- The high byte of a notice set (R172). -/
def NoticeSet.highByte (ns : NoticeSet) : Byte :=
  bitAt ns.holdExpired 0 ||| bitAt ns.holdWithdrawn 1 ||| bitAt ns.retired 2

/-- The result code as RESULT reads it: its place in the table of R169. -/
def ResultCode.byte : ResultCode → Byte
  | .noneYet => 0x00
  | .ok => 0x01
  | .pending => 0x02
  | .already => 0x03
  | .badField => 0x04
  | .noFreeStation => 0x05
  | .stationInUse => 0x06
  | .notDefined => 0x07
  | .notOnline => 0x08
  | .addressInUse => 0x09
  | .regionInUse => 0x0A
  | .outboundBusy => 0x0B
  | .nothingToCancel => 0x0C
  | .inboundNotHeld => 0x0D
  | .noHold => 0x0E
  | .requestUnwithdrawn => 0x0F
  | .locked => 0x10
  | .alreadyLocal => 0x11
  | .empty => 0x12
  | .unknownCommand => 0x13

/-! ## The fields of DEFINE STATION (R10) -/

/-- A definition whose twelve fields have passed; `station` is `none` for 255, the lowest-numbered FREE record. -/
structure Definition where
  station : Option StationNo
  unit : LinkUnit
  width : MatchWidth
  policy : PortPolicy
  mayTalk : Bool
  mayListen : Bool
  inRegion : Option Region
  outRegion : Option Region
  options : HoldOptions
  triggerLine : Option LineNo
  deriving DecidableEq, Repr

/-- Whether a base unit is allowed for a match width (R2). -/
def unitAllowed (w : MatchWidth) (u : Nat) : Bool :=
  match w with
  | .exact => decide (1 ≤ u ∧ u ≤ 126)
  | .pair => decide (2 ≤ u ∧ u ≤ 126 ∧ u % 2 = 0)
  | .quad => decide (4 ≤ u ∧ u ≤ 124 ∧ u % 4 = 0)

/-- Whether a region's page count passes: 1 to 64, with the first page not above 256 less the count (R10). -/
def regionPasses (first count : Byte) : Bool :=
  decide (1 ≤ count.toNat ∧ count.toNat ≤ 64 ∧ first.toNat + count.toNat ≤ 256)

/-- The region of a role, absent when the role is (R10). -/
def regionOf (role : Bool) (first count : Byte) : Option Region :=
  if role then some ⟨first.toFin, count.toNat⟩ else none

/-- The port policy of fields 4 and 5, or the number of the field that fails (R10). -/
def policyFields (code port : Byte) : Except Byte PortPolicy :=
  if code = 0 then .ok .noPort
  else if code = 1 then
    if h : port.toNat < 16 then .ok (.fixed ⟨port.toNat, h⟩) else .error 5
  else if code = 2 then .ok .openPort
  else .error 4

/-- The twelve fields of DEFINE STATION, checked in field order: the definition, or the number of the first field that
fails (R10). -/
def defineFields (p : ParamBlock) : Except Byte Definition :=
  if p[0].toNat ≥ 32 ∧ p[0] ≠ 255 then .error 1
  else match widthField p[1] with
  | none => .error 2
  | some w =>
  if hu : p[2].toNat < 128 ∧ unitAllowed w p[2].toNat = true then
    match policyFields p[3] p[4] with
    | .error e => .error e
    | .ok policy =>
    let talk := p[5].getLsbD 0
    let listen := p[5].getLsbD 1
    if p[5] &&& 0xFC ≠ 0 ∨ (talk = false ∧ listen = false) then .error 6
    else if listen = true ∧ regionPasses p[6] p[7] = false then .error 8
    else if talk = true ∧ regionPasses p[8] p[9] = false then .error 10
    else match triggerField p[11] with
    | none => .error 12
    | some line => .ok {
        station := stationField p[0]
        unit := ⟨p[2].toNat, hu.1⟩
        width := w
        policy := policy
        mayTalk := talk
        mayListen := listen
        inRegion := regionOf listen p[6] p[7]
        outRegion := regionOf talk p[8] p[9]
        options := optionsField p[10]
        triggerLine := line }
  else .error 3

/-- The posted length field of POST OUTBOUND, low byte first (R172). -/
def lengthField (p : ParamBlock) : Nat := p[1].toNat + 256 * p[2].toNat

/-! ## Results -/

/-- Result bytes to write into the parameter block: each with its byte number. -/
abbrev ResultBytes := List (Fin 32 × Byte)

/-- Write result bytes into the parameter block; every other byte keeps its value (R172). -/
def writeParams (p : ParamBlock) (rs : ResultBytes) : ParamBlock :=
  rs.foldl (fun q r => q.set r.1 r.2) p

/-- What a command does at its completion: the state its block leaves, the result code, the result detail of byte 31
and the result bytes (R168, R172). -/
structure CommandOutcome where
  state : State
  result : ResultCode
  detail : Byte
  bytes : ResultBytes

/-- A command completes with a result, byte 31 at 0 and no result bytes. -/
def CommandOutcome.plain (s : State) (r : ResultCode) : CommandOutcome := ⟨s, r, 0, []⟩

/-- A command completes with BAD_FIELD and the number of the failing field, and changes no state (R10). -/
def CommandOutcome.badField (s : State) (field : Byte) : CommandOutcome := ⟨s, .badField, field, []⟩

/-- The life-state check of R8: a FREE station gives NOT_DEFINED, and one in a life state the command does not accept
NOT_ONLINE; otherwise the command goes on with the record. -/
def withStation (s : State) (n : StationNo) (accepts : LifeState → Bool)
    (act : StationRecord → CommandOutcome) : CommandOutcome :=
  match s.record n with
  | none => .plain s .notDefined
  | some r => if accepts r.life then act r else .plain s .notOnline

/-- A command that accepts an ONLINE station only (R8). -/
def acceptsOnline (l : LifeState) : Bool := decide (l = .online)

/-- A command that accepts ONLINE and RETIRING stations (R8). -/
def acceptsLive (l : LifeState) : Bool := decide (l ≠ .retired)

/-- A command that accepts every station that is not FREE (R8). -/
def acceptsAny (_ : LifeState) : Bool := true

/-- The place code of READ STATION byte 24: 0 none, 1 talk seat, 2 to 5 lanes 0 to 3, with the tentative mark in
bit 7. -/
def Seat.byte : Seat → Byte
  | .none => 0
  | .talker t => 1 ||| bitAt t 7
  | .lane i t => BitVec.ofNat 8 (2 + i.val) ||| bitAt t 7

/-- A place as READ ROUTE returns it: 0xFF when empty, else the station number with bit 7 for tentative (R172). -/
def placeByte (p : Option Place) : Byte :=
  match p with
  | none => 0xFF
  | some q => stationByte q.station ||| bitAt q.tentative 7

/-- The remaining time of a timer as a byte: 0 for an untimed one (R80). -/
def timerByte (t : Option Nat) : Byte :=
  match t with
  | none => 0
  | some n => BitVec.ofNat 8 n

/-- Bytes placed from a byte number onwards. -/
def bytesFrom : Nat → List Byte → ResultBytes
  | _, [] => []
  | i, b :: bs => (Fin.ofNat 32 i, b) :: bytesFrom (i + 1) bs

end Sys2Proof.Machine
end

