-- ==== Sys2Proof/Machine/Engine.lean ====
section
/-! DEFINITION. The command engine: acceptance, completion, and the one shape every host command has (section 11.2). -/

namespace Sys2Proof.Machine

/-- Acceptance of a command by a write of its code to COMMAND: the engine takes the code and a copy of the parameter
block, RESULT reads 0x00, and an unread earlier result is discarded (R167). -/
def State.accept (s : State) (code : Byte) : State :=
  { s with engine := .busy code s.params, result := .noneYet }

/-- Completion after the block's action: the result bytes and byte 31 are written, RESULT takes the result code and
the engine is DONE (R168, R172). -/
def CommandOutcome.finish (o : CommandOutcome) : State :=
  { o.state with
    params := (writeParams o.state.params o.bytes).set 31 o.detail
    result := o.result
    engine := .done }

/-- A host command as one row of the table (log entry 5). With that command in hand, it completes. With the engine IDLE or
DONE, the host writes its code to COMMAND and it completes with nothing between. With another command in hand, the write
meets BUSY and sets COMMAND_OVERRUN (R170). While NRST is low the write is lost (R166). -/
def State.issue (s : State) (code : Byte) (act : ParamBlock → State → CommandOutcome) : State :=
  if s.nrstLow then s
  else match s.engine with
    | .busy c snapshot => if c = code then (act snapshot s).finish else s.commandOverrun
    | .idle => (act s.params (s.accept code)).finish
    | .done => (act s.params (s.accept code)).finish

/-- RETIRE STATION in one of its two modes as one row of the table (log entry 5): as `issue`, with the mode's code in
byte 1, which the host writes there before it writes the command. -/
def State.issueRetire (s : State) (mode : Byte) (act : ParamBlock → State → CommandOutcome) : State :=
  if s.nrstLow then s
  else
    let t := { s with params := s.params.set 1 mode }
    match s.engine with
    | .busy c snapshot =>
      if c = 0x13 ∧ snapshot[1] = mode then (act snapshot s).finish else s.commandOverrun
    | .idle => (act t.params (t.accept 0x13)).finish
    | .done => (act t.params (t.accept 0x13)).finish

end Sys2Proof.Machine
end

