-- ==== Sys2Proof/Machine/Route.lean ====
section
/-! DEFINITION. The address resolver (chapter 3) and the route unit (chapter 4): ROUTE frames, PORT verdicts and READ ROUTE. -/

namespace Sys2Proof.Machine

/-! ## The match (section 3.1) -/

/-- How many units a match width spans (R2). -/
def MatchWidth.span : MatchWidth → Nat
  | .exact => 1
  | .pair => 2
  | .quad => 4

/-- Whether a unit lies in the unit set of a base unit and a match width: unit 127 is in none (R2, R47). -/
def coversUnit (w : MatchWidth) (base u : LinkUnit) : Bool :=
  decide (u.val ≠ 127 ∧ base.val ≤ u.val ∧ u.val < base.val + w.span)

/-- Whether "no port" or a port lies in the port set of a policy: the port test for a ROUTE address (R3, R48). -/
def PortPolicy.covers (p : PortPolicy) (port : Option LinkPort) : Bool :=
  match p with
  | .noPort => port.isNone
  | .fixed q => decide (port = some q)
  | .openPort => port.isSome

/-- Whether a station passes the unit test and the port test of a ROUTE address (R47, R48). -/
def StationRecord.matchesRoute (r : StationRecord) (a : Address) : Bool :=
  coversUnit r.width r.unit a.unit && r.policy.covers a.port

/-- Whether a station passes the unit test and the port test of a POLL address: an OPEN station passes through its
accepted port alone (R49). -/
def StationRecord.matchesPoll (r : StationRecord) (a : Address) : Bool :=
  coversUnit r.width r.unit a.unit &&
    match r.policy with
    | .openPort => a.port.isSome && decide (a.port = r.acceptedPort)
    | p => p.covers a.port

/-- The ONLINE station that passes a test, if one does (R46); at most one does (R50). -/
def State.resolve (s : State) (test : StationRecord → Bool) : Option StationNo :=
  stationNumbers.find? (fun n => s.onlineWith n test)

/-- The resolver writes the matched address into the station's last matched address (R53). -/
def State.writeMatch (s : State) (n : StationNo) (a : Address) : State :=
  s.updateRecord n (fun r => { r with lastMatched := some a })

/-! ## Taking a ROUTE frame (section 4.2) -/

/-- A ROUTE frame half taken: the state, and the tentative places made so far with the address that matched each, the
talk seat first and then the lanes in lane order. -/
structure RoutePass where
  state : State
  tentative : List (StationNo × Address)

/-- The lowest empty lane. -/
def State.emptyLane (s : State) : Option LaneNo :=
  laneNumbers.find? (fun i => decide (s.lane i = none))

/-- Step 2: the talker is resolved and seated (R63). -/
def State.seatTalker (s : State) (a : Address) : RoutePass :=
  if a.unit = 127 then ⟨s, []⟩
  else match s.resolve (fun r => r.matchesRoute a) with
    | none => ⟨s, []⟩
    | some n =>
      let t := s.writeMatch n a
      if !s.onlineWith n (fun r => r.mayTalk) then ⟨t.addNotice n .seatDenied, []⟩
      else if s.onlineWith n (fun r => decide (r.policy = .openPort)) then
        ⟨{ t with talkSeat := some ⟨n, true⟩ }, [(n, a)]⟩
      else ⟨{ t with talkSeat := some ⟨n, false⟩ }, []⟩

/-- Step 3 for one listener entry: it is resolved and the first case of R64 that applies is taken (R64, R65). -/
def RoutePass.seatListener (p : RoutePass) (a : Address) : RoutePass :=
  let s := p.state
  match s.resolve (fun r => r.matchesRoute a) with
  | none => p
  | some n =>
    let t := s.writeMatch n a
    if s.hasPlace n then { p with state := t }
    else if !s.onlineWith n (fun r => r.mayListen) then { p with state := t.addNotice n .seatDenied }
    else match s.emptyLane with
      | none => { p with state := (t.addNotice n .seatDenied).laneOverflow n }
      | some i =>
        if s.onlineWith n (fun r => decide (r.policy = .openPort)) then
          ⟨t.setLane i (some ⟨n, true⟩), p.tentative ++ [(n, a)]⟩
        else { p with state := t.setLane i (some ⟨n, false⟩) }

/-- Raise the PORT hold of a tentative place, its detail the address that matched the station (R55, R67). -/
def State.raisePortHold (s : State) (e : StationNo × Address) : State :=
  match e.2.port with
  | none => s
  | some q => s.raiseHold e.1 (.port e.2.unit q)

/-- A ROUTE frame is taken whole, in the six steps of R61. -/
def State.takeRoute (s : State) (talker : Address) (listeners : List Address) : State :=
  let released := stationNumbers.filter (fun n => s.hasLife n .retiring && s.hasPlace n)
  let s1 := s.emptyRoute.clearAcceptedPorts
  let p := listeners.foldl RoutePass.seatListener (s1.seatTalker talker)
  let s4 := p.state.listeners.foldl State.remoteTransition p.state
  let s5 := p.tentative.foldl State.raisePortHold s4
  s5.forStations released State.reportRelease

/-! ## PORT verdicts (R67, R68) -/

/-- A place with its tentative mark cleared, if it holds the station. -/
def settlePlace (p : Option Place) (n : StationNo) : Option Place :=
  if placeHolds p n then some ⟨n, false⟩ else p

/-- ACCEPT of a PORT hold on an ONLINE station: it is seated in its place, the port of the hold's matched address
becomes its accepted port, and in a lane it receives the remote transition (R67). -/
def State.acceptPort (s : State) (n : StationNo) (q : LinkPort) : State :=
  let seated := laneNumbers.foldl (fun t i => t.setLane i (settlePlace (t.lane i) n))
    { s with talkSeat := settlePlace s.talkSeat n }
  let ported := seated.updateRecord n (fun r => { r with acceptedPort := some q })
  if (s.laneOf n).isSome then ported.remoteTransition n else ported

/-! ## READ ROUTE (R73) -/

/-- READ ROUTE: the talk seat, the four lanes, LANE_OVERFLOW and DENIED_STATION (R73, R172). -/
def readRouteCommand (_ : ParamBlock) (s : State) : CommandOutcome :=
  ⟨s, .ok, 0,
    [(0, placeByte s.talkSeat), (1, placeByte (s.lane 0)), (2, placeByte (s.lane 1)), (3, placeByte (s.lane 2)),
      (4, placeByte (s.lane 3)), (5, bitAt s.device.laneOverflow 0), (6, stationByte s.deniedStation)]⟩

/-- READ_ROUTE (R73). -/
def execReadRoute (s : State) : Host.Outcome State Fault Refusal :=
  .next (s.issue 0x50 readRouteCommand)

end Sys2Proof.Machine
end

