-- ==== Sys2Proof/Machine/Holds.lean ====
section
/-! DEFINITION. The hold unit (chapter 5): verdicts, expiry, withdrawal, PRIVATE frames, and the hold commands. -/

namespace Sys2Proof.Machine

/-! ## Verdicts (section 5.4) -/

/-- A verdict applied to a hold for its kind (R83 to R87): ACCEPT of a PORT hold seats an ONLINE station and is applied
as REFUSE to a RETIRING one; a verdict on an END or PRIVATE hold has no other effect than its release. -/
def State.applyVerdict (s : State) (h : Hold) (accept : Bool) : State :=
  match h.kind with
  | .port _ q =>
    if accept && s.isOnline h.station then s.acceptPort h.station q else s.freePlaces h.station
  | .clear _ => if accept then s.clearStation h.station else s
  | .trigger => if accept then s.addNotice h.station .triggered else s
  | .endOfMessage => s
  | .privateFrame => s

/-- The consequences of a hold's leaving the list, after the verdict's effects (R88). -/
def State.holdLeft (s : State) (h : Hold) : State :=
  State.reportRelease h.station (if h.kind = .privateFrame then s.discardPrivateCopy else s)

/-- A verdict of the host: the hold leaves the list, the verdict is applied, and the consequences follow (R82). -/
def State.answerWith (s : State) (h : Hold) (accept : Bool) : State :=
  (((s.removeHold h.station).applyVerdict h accept).holdLeft h)

/-! ## Expiry (section 5.5) -/

/-- The default verdict of a hold's kind, as ACCEPT or not: REFUSE for PORT, ACCEPT for CLEAR and TRIGGER, and the
release, which either verdict is, for END and PRIVATE (R89). -/
def HoldKind.defaultAccept : HoldKind → Bool
  | .port _ _ => false
  | .clear _ => true
  | .trigger => true
  | .endOfMessage => true
  | .privateFrame => true

/-- Whether a timer runs out at the next millisecond step, which would take its remaining time from 1 to 0 (R80). -/
def timerDue (t : Option Nat) : Bool :=
  match t with
  | none => false
  | some n => decide (n ≤ 1)

/-- A hold's timer runs out: it leaves the list, HOLD_EXPIRED is added, and the default verdict is applied (R89). -/
def State.expireHold (s : State) (h : Hold) : State :=
  ((((s.removeHold h.station).addNotice h.station .holdExpired).applyVerdict h h.kind.defaultAccept).holdLeft h)

/-- The holds whose timers run out, taken in hold-list order, each completed before the next (R89). -/
def State.expireHolds (s : State) : State :=
  (s.holds.filter (fun h => timerDue h.remaining)).foldl State.expireHold s

/-- HOLD_EXPIRY (R89): the holds with one millisecond remaining run out; a hold with more is not due (R80), and with no
hold due the step has no effect. -/
def execHoldExpiry (s : State) : Host.Outcome State Fault Refusal :=
  .next s.expireHolds

/-! ## PRIVATE frames (section 5.3) -/

/-- A PRIVATE frame: if it reaches a seated ONLINE listener with pass-private, the copy is kept and a PRIVATE hold is
raised for each such listener in lane order; otherwise it has no effect (R77, R81). -/
def State.takePrivate (s : State) (code : BitVec 6) (body : List Byte) : State :=
  match s.onlineListeners.filter (fun n => s.onlineWith n (fun r => r.options.passPrivate)) with
  | [] => s
  | n :: ns =>
    (n :: ns).foldl (fun t m => t.raiseHold m .privateFrame) { s with privateCopy := some ⟨code, body⟩ }

/-! ## The hold commands (sections 5.2, 5.4, 5.7) -/

/-- ANSWER HOLD (R82): field 1 the station, field 2 the tag, field 3 the verdict, 0 ACCEPT or 1 REFUSE. -/
def answerHoldCommand (p : ParamBlock) (s : State) : CommandOutcome :=
  match stationField p[0] with
  | none => .badField s 1
  | some n =>
    if p[2] ≠ 0 ∧ p[2] ≠ 1 then .badField s 3
    else withStation s n acceptsLive (fun _ =>
      match s.pendingHold n with
      | none => .plain s .noHold
      | some h =>
        if h.tag = p[1] then .plain (s.answerWith h (decide (p[2] = 0))) .ok
        else .plain s .noHold)

/-- The detail of READ HOLD, from byte 6 (section 11.3). -/
def holdDetail (s : State) (h : Hold) : ResultBytes :=
  match h.kind with
  | .port u q => [(6, BitVec.ofNat 8 u.val), (7, portByte (some q))]
  | .clear .all => [(6, 0)]
  | .clear .listeners => [(6, 1)]
  | .trigger => []
  | .endOfMessage => []
  | .privateFrame =>
    match s.privateCopy with
    | none => []
    | some c => (6, c.code.setWidth 8) :: (7, BitVec.ofNat 8 c.body.length) :: bytesFrom 8 c.body

/-- What READ HOLD returns for a pending hold (R92). -/
def readHoldOutcome (s : State) (h : Hold) : CommandOutcome :=
  ⟨s, .ok, 0,
    [(1, stationByte h.station), (2, h.kind.code), (3, h.tag), (4, timerByte h.remaining),
      (5, BitVec.ofNat 8 s.holds.length)] ++ holdDetail s h⟩

/-- READ HOLD (R92): a station's pending hold, or with 255 the head of the hold list. -/
def readHoldCommand (p : ParamBlock) (s : State) : CommandOutcome :=
  if p[0] = 255 then
    match s.holds with
    | [] => .plain s .empty
    | h :: _ => readHoldOutcome s h
  else match stationField p[0] with
    | none => .badField s 1
    | some n => withStation s n acceptsLive (fun _ =>
      match s.pendingHold n with
      | none => .plain s .noHold
      | some h => readHoldOutcome s h)

/-- SET HOLD LIMIT (R79): every byte is a limit; running timers are kept. -/
def setHoldLimitCommand (p : ParamBlock) (s : State) : CommandOutcome :=
  .plain { s with holdLimit := p[0] } .ok

/-- READ_HOLD (R92). -/
def execReadHold (s : State) : Host.Outcome State Fault Refusal :=
  .next (s.issue 0x48 readHoldCommand)

/-- ANSWER_HOLD (R82). -/
def execAnswerHold (s : State) : Host.Outcome State Fault Refusal :=
  .next (s.issue 0x49 answerHoldCommand)

/-- SET_HOLD_LIMIT (R79). -/
def execSetHoldLimit (s : State) : Host.Outcome State Fault Refusal :=
  .next (s.issue 0x58 setHoldLimitCommand)

end Sys2Proof.Machine
end

