-- ==== Sys2Proof/Machine/Transfers.lean ====
section
/-! DEFINITION. The inbound unit with the frame stage (chapter 6) and the outbound unit (chapter 7). -/

namespace Sys2Proof.Machine

/-! ## Storing a DATA frame (section 6.2) -/

/-- Whether a station has room for a body: its inbound is EMPTY or FILLING and the fill length plus the body's length
is no more than the capacity (R97). -/
def StationRecord.hasRoom (r : StationRecord) (len : Nat) : Bool :=
  !r.inbound.isComplete && decide (r.inbound.fill + len ≤ regionCapacity r.inRegion)

/-- The inbound state after a store that leaves a fill length in a region of a capacity (R98). -/
def inboundAfter (fill capacity : Nat) (endMark : Bool) : Inbound :=
  if endMark then .complete fill false
  else if fill = capacity then .complete fill true
  else .filling fill

/-- Store a frame for a station: the body goes after the bytes already there, and the state follows R98, with
INBOUND_COMPLETE when the region closes. -/
def State.storeFrame (s : State) (n : StationNo) (body : List Byte) (endMark : Bool) : State :=
  match s.record n with
  | none => s
  | some r =>
    let after := inboundAfter (r.inbound.fill + body.length) (regionCapacity r.inRegion) endMark
    let t := { s.updateRecord n (fun r => { r with inbound := after }) with
      memory := Memory.writeList s.memory (regionBase r.inRegion + r.inbound.fill) body }
    if after.isComplete then t.addNotice n .inboundComplete else t

/-- A station without room: a FILLING region is closed as it stands with the continues mark and INBOUND_COMPLETE, a
COMPLETE one is left as it is (R99). -/
def State.closeUnfinished (s : State) (n : StationNo) : State :=
  match s.record n with
  | none => s
  | some r =>
    match r.inbound with
    | .complete _ _ => s
    | i => (s.updateRecord n (fun r => { r with inbound := .complete i.fill true })).addNotice n .inboundComplete

/-- A DATA frame half taken: the state, the stations that want an END hold in lane order, and the stations owed. -/
structure DataPass where
  state : State
  endHolds : List StationNo
  owed : List StationNo

/-- The frame offered to one seated station, ONLINE or RETIRING, and settled in full (R97 to R99). -/
def DataPass.offer (body : List Byte) (endMark : Bool) (p : DataPass) (n : StationNo) : DataPass :=
  match p.state.record n with
  | none => p
  | some r =>
    if r.life = .retired then p
    else if r.hasRoom body.length then
      { p with
        state := p.state.storeFrame n body endMark
        endHolds := if endMark && r.options.onEnd then p.endHolds ++ [n] else p.endHolds }
    else
      { p with
        state := p.state.closeUnfinished n
        owed := p.owed ++ [n] }

/-- Form the stage for the stations owed, its timer at the hold limit in force (R102, R104). -/
def State.formStage (s : State) (body : List Byte) (endMark : Bool) (owed : List StationNo) : State :=
  if owed = [] then s
  else { s with stage := some ⟨body, endMark, stationNumbers.filter (fun n => decide (n ∈ owed)), s.startTimer⟩ }

/-- A DATA frame: the stores and closes in lane order, then the END holds in lane order, then the stage (R100). -/
def State.takeData (s : State) (endMark : Bool) (body : List Byte) : State :=
  let p := s.listeners.foldl (DataPass.offer body endMark) ⟨s, [], []⟩
  let t := p.endHolds.foldl (fun t n => t.raiseHold n .endOfMessage) p.state
  t.formStage body endMark p.owed

/-! ## Releasing a region (section 6.4) -/

/-- Deliver the staged frame into the station's emptied region: the store of R98, the END hold if the station has
hold-on-end, the leaving of the owed set, and the report of a RETIRING station (R106). -/
def State.deliverStaged (s : State) (n : StationNo) (g : Stage) : State :=
  let stored := s.storeFrame n g.body g.endMark
  let held :=
    if g.endMark && (match s.record n with | none => false | some r => r.options.onEnd) then
      stored.raiseHold n .endOfMessage
    else stored
  State.reportRelease n (held.leaveOwed n)

/-- The result bytes of RELEASE INBOUND: whether the staged frame was delivered, and the inbound after the command
(R105, R172). -/
def releaseBytes (s : State) (n : StationNo) (delivered : Bool) : ResultBytes :=
  match s.record n with
  | none => [(1, bitAt delivered 0)]
  | some r => [(1, bitAt delivered 0), (2, r.inbound.byte), (3, lowByte r.inbound.fill), (4, highByte r.inbound.fill)]

/-- RELEASE INBOUND (R105): a COMPLETE inbound becomes EMPTY, and a station that is owed the staged frame has it
delivered in the same completion. -/
def releaseInboundCommand (p : ParamBlock) (s : State) : CommandOutcome :=
  match stationField p[0] with
  | none => .badField s 1
  | some n => withStation s n acceptsLive (fun r =>
    if r.inbound.isComplete then
      let emptied := s.updateRecord n (fun r => { r with inbound := .empty })
      match s.stage with
      | none => ⟨emptied, .ok, 0, releaseBytes emptied n false⟩
      | some g =>
        if n ∈ g.owed then
          let delivered := emptied.deliverStaged n g
          ⟨delivered, .ok, 0, releaseBytes delivered n true⟩
        else ⟨emptied, .ok, 0, releaseBytes emptied n false⟩
    else .plain s .inboundNotHeld)

/-- RELEASE_INBOUND (R105). -/
def execReleaseInbound (s : State) : Host.Outcome State Fault Refusal :=
  .next (s.issue 0x38 releaseInboundCommand)

/-! ## The stage timer (R107) and the millisecond step (R80, R104) -/

/-- The stage timer runs out: DATA_LOST to each station still owed in ascending station number, the stage is emptied,
and the RETIRING ones among them are reported in ascending station number (R107). -/
def State.expireStage (s : State) : State :=
  match s.stage with
  | none => s
  | some g =>
    if timerDue g.remaining then
      let lost := { s.forStations g.owed (fun n t => t.addNotice n .dataLost) with stage := none }
      lost.forStations g.owed State.reportRelease
    else s

/-- A timer after a millisecond step that does not run it out (R80). -/
def tickTimer (t : Option Nat) : Option Nat :=
  match t with
  | none => none
  | some n => some (n - 1)

/-- Every timer falls by one. -/
def State.tick (s : State) : State :=
  { s with
    holds := s.holds.map (fun h => { h with remaining := tickTimer h.remaining })
    stage := match s.stage with
      | none => none
      | some g => some { g with remaining := tickTimer g.remaining } }

/-- STAGE_EXPIRY (R107): a stage with one millisecond remaining runs out; with no stage due the step has no effect. -/
def execStageExpiry (s : State) : Host.Outcome State Fault Refusal :=
  .next s.expireStage

/-- MILLISECOND_STEP (R80, R104): the timers that this step takes from 1 to 0 run out, the holds and then the stage (either
order is allowed; the rows HOLD_EXPIRY and STAGE_EXPIRY give the other, log entry 7), and every other timer falls by one. -/
def execMillisecondStep (s : State) : Host.Outcome State Fault Refusal :=
  .next s.expireHolds.expireStage.tick

/-! ## Outbound (chapter 7) -/

/-- POST OUTBOUND (R115): field 1 the station, field 2 the posted length, field 3 the end flag; then the tests on the
station. -/
def postOutboundCommand (p : ParamBlock) (s : State) : CommandOutcome :=
  match stationField p[0] with
  | none => .badField s 1
  | some n =>
    let len := lengthField p
    if len > 2048 then .badField s 2
    else if ¬ (p[3] = 1 ∨ (p[3] = 0 ∧ len ≥ 1)) then .badField s 3
    else withStation s n acceptsOnline (fun r =>
      if !r.mayTalk then .badField s 1
      else if len > regionCapacity r.outRegion then .badField s 2
      else if !r.outbound.isEmpty then .plain s .outboundBusy
      else .plain (s.updateRecord n (fun r => { r with outbound := .posted len (decide (p[3] = 1)) })) .ok)

/-- CANCEL OUTBOUND (R116): POSTED becomes EMPTY, SENDING becomes CLOSING; there is nothing to cancel in EMPTY or
CLOSING. -/
def cancelOutboundCommand (p : ParamBlock) (s : State) : CommandOutcome :=
  match stationField p[0] with
  | none => .badField s 1
  | some n => withStation s n acceptsOnline (fun r =>
    match r.outbound with
    | .posted _ _ => .plain (s.updateRecord n (fun r => { r with outbound := .empty })) .ok
    | .sending len e c => .plain (s.updateRecord n (fun r => { r with outbound := .closing len e c })) .ok
    | .empty => .plain s .nothingToCancel
    | .closing _ _ _ => .plain s .nothingToCancel)

/-- POST_OUTBOUND (R115). -/
def execPostOutbound (s : State) : Host.Outcome State Fault Refusal :=
  .next (s.issue 0x30 postOutboundCommand)

/-- CANCEL_OUTBOUND (R116). -/
def execCancelOutbound (s : State) : Host.Outcome State Fault Refusal :=
  .next (s.issue 0x31 cancelOutboundCommand)

/-- The outbound of a talker after its REPLY, with OUTBOUND_DONE when the message is done (R119, R120). -/
def State.outboundDone (s : State) (n : StationNo) : State :=
  (s.updateRecord n (fun r => { r with outbound := .empty })).addNotice n .outboundDone

/-- A POSTED or SENDING talker answers with the next chunk of its message (R119). -/
def State.sendChunk (s : State) (n : StationNo) (r : StationRecord) (len : Nat) (e : Bool) (c : Nat) : State :=
  let k := min 32 (len - c)
  let data := s.readBytes (regionBase r.outRegion + c) k
  if len ≤ c + k then
    { s.outboundDone n with replyWaiting := some (.reply e false data) }
  else
    { s.updateRecord n (fun r => { r with outbound := .sending len e (c + k) }) with
      replyWaiting := some (.reply false false data) }

/-- A FETCH frame: the seated talker makes up a REPLY from its outbound state and that state changes (R117 to R120). -/
def State.takeFetch (s : State) : State :=
  match seatedIn s.talkSeat with
  | none => s
  | some n =>
    match s.record n with
    | none => s
    | some r =>
      match r.outbound with
      | .empty => { s with replyWaiting := some (.reply false true []) }
      | .posted len e => s.sendChunk n r len e 0
      | .sending len e c => s.sendChunk n r len e c
      | .closing _ _ _ => { s.outboundDone n with replyWaiting := some (.reply true false []) }

end Sys2Proof.Machine
end

