-- ==== Sys2Proof/Machine/Requests.lean ====
section
/-! DEFINITION. The request unit (chapter 8): the request commands and POLL. -/

namespace Sys2Proof.Machine

/-- A POLL frame: the resolved station makes up a STATUS frame, and an ASKING one becomes ANSWERED with POLLED
(R132). -/
def State.takePoll (s : State) (a : Address) : State :=
  match s.resolve (fun r => r.matchesPoll a) with
  | none => s
  | some n =>
    match s.record n with
    | none => s
    | some r =>
      let t := s.writeMatch n a
      match r.request with
      | .asking =>
        { (t.updateRecord n (fun r => { r with request := .answered })).addNotice n .polled with
          replyWaiting := some (.status true r.status) }
      | .quiet => { t with replyWaiting := some (.status false r.status) }
      | .answered => { t with replyWaiting := some (.status false r.status) }

/-- SET STATUS (R129): field 1 the station, field 2 the status byte, 0 to 127. -/
def setStatusCommand (p : ParamBlock) (s : State) : CommandOutcome :=
  match stationField p[0] with
  | none => .badField s 1
  | some n =>
    if p[1].toNat > 127 then .badField s 2
    else withStation s n acceptsOnline (fun _ =>
      .plain (s.updateRecord n (fun r => { r with status := p[1].setWidth 7 })) .ok)

/-- REQUEST SERVICE (R130): QUIET or ASKING becomes ASKING with the new status byte; ANSWERED is refused. -/
def requestServiceCommand (p : ParamBlock) (s : State) : CommandOutcome :=
  match stationField p[0] with
  | none => .badField s 1
  | some n =>
    if p[1].toNat > 127 then .badField s 2
    else withStation s n acceptsOnline (fun r =>
      match r.request with
      | .answered => .plain s .requestUnwithdrawn
      | .quiet => .plain (s.updateRecord n (fun r => { r with request := .asking, status := p[1].setWidth 7 })) .ok
      | .asking => .plain (s.updateRecord n (fun r => { r with request := .asking, status := p[1].setWidth 7 })) .ok)

/-- WITHDRAW REQUEST (R131): the station becomes QUIET, and byte 1 returns the request state found. -/
def withdrawRequestCommand (p : ParamBlock) (s : State) : CommandOutcome :=
  match stationField p[0] with
  | none => .badField s 1
  | some n => withStation s n acceptsOnline (fun r =>
    ⟨s.updateRecord n (fun r => { r with request := .quiet }), .ok, 0, [(1, r.request.code)]⟩)

/-- SET_STATUS (R129). -/
def execSetStatus (s : State) : Host.Outcome State Fault Refusal :=
  .next (s.issue 0x20 setStatusCommand)

/-- REQUEST_SERVICE (R130). -/
def execRequestService (s : State) : Host.Outcome State Fault Refusal :=
  .next (s.issue 0x21 requestServiceCommand)

/-- WITHDRAW_REQUEST (R131). -/
def execWithdrawRequest (s : State) : Host.Outcome State Fault Refusal :=
  .next (s.issue 0x22 withdrawRequestCommand)

end Sys2Proof.Machine
end

