-- ==== Sys2Proof/Machine/Modes.lean ====
section
/-! DEFINITION. Control modes, CLEAR, TRIGGER and the trigger lines (chapter 9), and TAKE NOTICE (chapter 10). -/

namespace Sys2Proof.Machine

/-! ## Mode frames (section 9.2) -/

/-- The link changes a station's control mode, with MODE_CHANGED (R137). -/
def State.changeMode (s : State) (n : StationNo) (m : ControlMode) : State :=
  (s.updateRecord n (fun r => { r with mode := m })).addNotice n .modeChanged

/-- REMOTE OFF on one station: an ONLINE station not LOCAL becomes LOCAL (R139). -/
def State.remoteOff (n : StationNo) (s : State) : State :=
  if s.onlineWith n (fun r => decide (r.mode ≠ .unlockedLocal)) then s.changeMode n .unlockedLocal else s

/-- A REMOTE frame: ON sets the remote-enable flag; OFF clears both flags and makes the ONLINE stations LOCAL, in
ascending station number (R139). -/
def State.takeRemote (s : State) (on : Bool) : State :=
  if on then { s with remoteEnable := true }
  else State.forStations { s with remoteEnable := false, lockout := false } stationNumbers State.remoteOff

/-- LOCKOUT on one station: LOCAL becomes LOCAL_LOCKED and REMOTE becomes REMOTE_LOCKED (R140). -/
def State.lockStation (n : StationNo) (s : State) : State :=
  match s.record n with
  | none => s
  | some r =>
    if r.life ≠ .online then s
    else match r.mode with
      | .unlockedLocal => s.changeMode n .lockedLocal
      | .unlockedRemote => s.changeMode n .lockedRemote
      | .lockedLocal => s
      | .lockedRemote => s

/-- A LOCKOUT frame: no effect while remote is not enabled; else lockout comes into force and every ONLINE station is
locked, in ascending station number (R140). -/
def State.takeLockout (s : State) : State :=
  if s.remoteEnable then State.forStations { s with lockout := true } stationNumbers State.lockStation else s

/-- LOCAL on one seated listener: REMOTE becomes LOCAL and REMOTE_LOCKED becomes LOCAL_LOCKED (R141). -/
def State.localStation (n : StationNo) (s : State) : State :=
  match s.record n with
  | none => s
  | some r =>
    match r.mode with
    | .unlockedRemote => s.changeMode n .unlockedLocal
    | .lockedRemote => s.changeMode n .lockedLocal
    | .unlockedLocal => s
    | .lockedLocal => s

/-- A LOCAL frame reaches every ONLINE station seated in a lane, in lane order (R141). -/
def State.takeLocal (s : State) : State := s.forStations s.onlineListeners State.localStation

/-- RETURN TO LOCAL (R142). -/
def returnToLocalCommand (p : ParamBlock) (s : State) : CommandOutcome :=
  match stationField p[0] with
  | none => .badField s 1
  | some n => withStation s n acceptsOnline (fun r =>
    match r.mode with
    | .unlockedRemote => .plain (s.updateRecord n (fun r => { r with mode := .unlockedLocal })) .ok
    | .lockedRemote => .plain s .locked
    | .unlockedLocal => .plain s .alreadyLocal
    | .lockedLocal => .plain s .alreadyLocal)

/-- RETURN_TO_LOCAL (R142). -/
def execReturnToLocal (s : State) : Host.Outcome State Fault Refusal :=
  .next (s.issue 0x28 returnToLocalCommand)

/-! ## CLEAR (section 9.4) and TRIGGER (section 9.5) -/

/-- A target of CLEAR is held if it has hold-on-clear, and cleared at once if it has not (R145). -/
def State.clearTarget (scope : ClearScope) (n : StationNo) (s : State) : State :=
  if s.onlineWith n (fun r => r.options.onClear) then s.raiseHold n (.clear scope) else s.clearStation n

/-- The targets of a CLEAR frame: ALL, every ONLINE station in ascending station number; LISTENERS, the ONLINE stations
seated in lanes, in lane order (R145). -/
def State.clearTargets (s : State) : ClearScope → List StationNo
  | .all => stationNumbers.filter s.isOnline
  | .listeners => s.onlineListeners

/-- A CLEAR frame settles each target in full before the next (R145). -/
def State.takeClear (s : State) (scope : ClearScope) : State :=
  s.forStations (s.clearTargets scope) (State.clearTarget scope)

/-- A target of TRIGGER is held if it has hold-on-trigger, and triggered at once if it has not (R148). -/
def State.triggerTarget (n : StationNo) (s : State) : State :=
  if s.onlineWith n (fun r => r.options.onTrigger) then s.raiseHold n .trigger else s.addNotice n .triggered

/-- A TRIGGER frame settles the ONLINE seated listeners in lane order (R148). -/
def State.takeTrigger (s : State) : State := s.forStations s.onlineListeners State.triggerTarget

/-- FORCE TRIGGER (R151): field 1 the line, field 2 the state, 0 OFF or 1 ON. -/
def forceTriggerCommand (p : ParamBlock) (s : State) : CommandOutcome :=
  if h : p[0].toNat < 4 then
    if p[1] ≠ 0 ∧ p[1] ≠ 1 then .badField s 2
    else .plain { s with forced := s.forced.set p[0].toNat (decide (p[1] = 1)) } .ok
  else .badField s 1

/-- FORCE_TRIGGER (R151). -/
def execForceTrigger (s : State) : Host.Outcome State Fault Refusal :=
  .next (s.issue 0x60 forceTriggerCommand)

/-! ## TAKE NOTICE (section 10.3) -/

/-- The record of a station whose notice set has been taken: FREE if the set held RETIRED, and otherwise with its set
cleared (R157, R158). -/
def takenRecord (r : StationRecord) : Option StationRecord :=
  if r.notices.retired then none else some { r with notices := NoticeSet.none }

/-- TAKE NOTICE (R157): the head of the notice list, its set and the count left. -/
def takeNoticeCommand (_ : ParamBlock) (s : State) : CommandOutcome :=
  match s.noticeList with
  | [] => ⟨s, .empty, 0, [(0, 255), (1, 0), (2, 0), (3, 0)]⟩
  | n :: rest =>
    match s.record n with
    | none => ⟨{ s with noticeList := rest }, .ok, 0,
        [(0, stationByte n), (1, 0), (2, 0), (3, BitVec.ofNat 8 rest.length)]⟩
    | some r =>
      ⟨{ s.setRecord n (takenRecord r) with noticeList := rest }, .ok, 0,
        [(0, stationByte n), (1, r.notices.lowByte), (2, r.notices.highByte), (3, BitVec.ofNat 8 rest.length)]⟩

/-- TAKE_NOTICE (R157). -/
def execTakeNotice (s : State) : Host.Outcome State Fault Refusal :=
  .next (s.issue 0x40 takeNoticeCommand)

end Sys2Proof.Machine
end

