-- ==== Sys2Proof/Machine/Table.lean ====
section
/-! DEFINITION. The station table's commands (chapter 1): DEFINE, ADJUST, READ and RETIRE STATION. -/

namespace Sys2Proof.Machine

/-! ## Defining a station (section 1.3) -/

/-- Whether two unit sets intersect (R12). -/
def unitsMeet (w : MatchWidth) (u : LinkUnit) (w' : MatchWidth) (u' : LinkUnit) : Bool :=
  (List.finRange 128).any (fun x => coversUnit w u x && coversUnit w' u' x)

/-- The sixteen ports and "no port", of which every port set is a part (R3). -/
def allPorts : List (Option LinkPort) := none :: (List.finRange 16).map some

/-- Whether two port sets intersect (R12). -/
def portsMeet (p q : PortPolicy) : Bool := allPorts.any (fun x => p.covers x && q.covers x)

/-- Whether a definition's address key conflicts with a station's (R12). -/
def Definition.keyConflicts (d : Definition) (r : StationRecord) : Bool :=
  unitsMeet d.width d.unit r.width r.unit && portsMeet d.policy r.policy

/-- Whether an optional region shares a page with another. -/
def regionsMeet (g h : Option Region) : Bool :=
  match g, h with
  | some g, some h => g.overlaps h
  | _, _ => false

/-- Whether a region of a definition shares a page with a region of a station (R13). -/
def Definition.regionConflicts (d : Definition) (r : StationRecord) : Bool :=
  regionsMeet d.inRegion r.inRegion || regionsMeet d.inRegion r.outRegion ||
    regionsMeet d.outRegion r.inRegion || regionsMeet d.outRegion r.outRegion

/-- The record a definition names: the number given if it is FREE, or the lowest-numbered FREE record for 255; otherwise
the result it is refused with (R11). -/
def State.chooseRecord (s : State) (d : Definition) : Except ResultCode StationNo :=
  match d.station with
  | some n => if s.record n = none then .ok n else .error .stationInUse
  | none =>
    match stationNumbers.find? (fun n => decide (s.record n = none)) with
    | some n => .ok n
    | none => .error .noFreeStation

/-- The lowest-numbered ONLINE station whose key conflicts with the definition (R12). -/
def State.addressConflict (s : State) (d : Definition) : Option StationNo :=
  stationNumbers.find? (fun m => s.onlineWith m d.keyConflicts)

/-- The lowest-numbered station whose regions conflict with the definition: an ONLINE or RETIRING station that shares a
page, or the new station itself when its own two regions share one (R13). -/
def State.regionConflict (s : State) (n : StationNo) (d : Definition) : Option StationNo :=
  stationNumbers.find? (fun m =>
    if m = n then regionsMeet d.inRegion d.outRegion
    else match s.record m with
      | none => false
      | some r => decide (r.life ≠ .retired) && d.regionConflicts r)

/-- The new ONLINE record with its initial state (R14). -/
def newRecord (d : Definition) (lockout : Bool) : StationRecord where
  life := .online
  unit := d.unit
  width := d.width
  policy := d.policy
  acceptedPort := none
  mayTalk := d.mayTalk
  mayListen := d.mayListen
  inRegion := d.inRegion
  outRegion := d.outRegion
  options := d.options
  triggerLine := d.triggerLine
  lastMatched := none
  status := 0
  request := .quiet
  mode := if lockout then .lockedLocal else .unlockedLocal
  inbound := .empty
  outbound := .empty
  notices := NoticeSet.none

/-- DEFINE STATION (R9 to R14): its fields, the record, the address and the regions are checked in that order. -/
def defineStationCommand (p : ParamBlock) (s : State) : CommandOutcome :=
  match defineFields p with
  | .error field => .badField s field
  | .ok d =>
    match s.chooseRecord d with
    | .error r => .plain s r
    | .ok n =>
      match s.addressConflict d with
      | some m => ⟨s, .addressInUse, stationByte m, []⟩
      | none =>
        match s.regionConflict n d with
        | some m => ⟨s, .regionInUse, stationByte m, []⟩
        | none => ⟨s.setRecord n (some (newRecord d s.lockout)), .ok, stationByte n, []⟩

/-- DEFINE_STATION (R14). -/
def execDefineStation (s : State) : Host.Outcome State Fault Refusal :=
  .next (s.issue 0x10 defineStationCommand)

/-! ## Adjusting and reading a station (section 1.4) -/

/-- ADJUST STATION (R15): field 1 the station, field 2 the hold options, field 3 the trigger line. -/
def adjustStationCommand (p : ParamBlock) (s : State) : CommandOutcome :=
  match stationField p[0] with
  | none => .badField s 1
  | some n =>
    match triggerField p[2] with
    | none => .badField s 3
    | some line => withStation s n acceptsOnline (fun _ =>
      .plain (s.updateRecord n (fun r => { r with options := optionsField p[1], triggerLine := line })) .ok)

/-- ADJUST_STATION (R15). -/
def execAdjustStation (s : State) : Host.Outcome State Fault Refusal :=
  .next (s.issue 0x11 adjustStationCommand)

/-- The first page of a region as READ STATION returns it. With the region absent the specification states no value: a free
one (log entry 2). -/
def firstPageByte (g : Option Region) (free : Nat) : Byte :=
  match g with
  | none => Config.unstatedByte free
  | some g => BitVec.ofNat 8 g.first.val

/-- The page count of a region, 0 when it is absent (R172). -/
def pageCountByte (g : Option Region) : Byte :=
  match g with
  | none => 0
  | some g => BitVec.ofNat 8 g.count

/-- The tag of a pending hold as READ STATION returns it. With no hold the specification states no value: a free one
(log entry 2). -/
def holdTagByte (h : Option Hold) (free : Nat) : Byte :=
  match h with
  | none => Config.unstatedByte free
  | some h => h.tag

/-- Bytes 1 to 30 of READ STATION (R16, R172). -/
def recordBytes (s : State) (n : StationNo) (r : StationRecord) : ResultBytes :=
  let hold := s.pendingHold n
  [(1, r.life.code ||| bitAt r.mayTalk 4 ||| bitAt r.mayListen 5),
   (2, BitVec.ofNat 8 r.unit.val),
   (3, r.width.code ||| (r.policy.code <<< 2) ||| r.policy.portBits),
   (4, firstPageByte r.inRegion s.freeCount), (5, pageCountByte r.inRegion),
   (6, firstPageByte r.outRegion (s.freeCount + 1)), (7, pageCountByte r.outRegion),
   (8, r.options.byte),
   (9, triggerByte r.triggerLine),
   (10, match r.lastMatched with | none => 0 | some a => BitVec.ofNat 8 a.unit.val),
   (11, match r.lastMatched with | none => 0 | some a => portByte a.port),
   (12, portByte r.acceptedPort),
   (13, r.status.setWidth 8),
   (14, r.request.code),
   (15, r.mode.code),
   (16, r.inbound.byte),
   (17, lowByte r.inbound.fill), (18, highByte r.inbound.fill),
   (19, r.outbound.code ||| bitAt r.outbound.endFlag 7),
   (20, lowByte r.outbound.postedLength), (21, highByte r.outbound.postedLength),
   (22, lowByte r.outbound.cursor), (23, highByte r.outbound.cursor),
   (24, (s.seatOf n).byte ||| bitAt (s.isOwed n) 6),
   (25, match hold with | none => 0 | some h => h.kind.code),
   (26, holdTagByte hold (s.freeCount + 2)),
   (27, match hold with | none => 0 | some h => timerByte h.remaining),
   (28, r.notices.lowByte), (29, r.notices.highByte),
   (30, 0)]

/-- READ STATION (R16): the record is copied into the parameter block. -/
def readStationCommand (p : ParamBlock) (s : State) : CommandOutcome :=
  match stationField p[0] with
  | none => .badField s 1
  | some n => withStation s n acceptsAny (fun r =>
    ⟨{ s with freeCount := s.freeCount + 3 }, .ok, 0, recordBytes s n r⟩)

/-- READ_STATION (R16). -/
def execReadStation (s : State) : Host.Outcome State Fault Refusal :=
  .next (s.issue 0x12 readStationCommand)

/-! ## Retiring a station (section 1.5) -/

/-- RETIRE STATION GRACEFUL on an ONLINE station: after the steps of R18 it is RETIRED at once with OK, or RETIRING with
PENDING while it has a seat, a pending hold or a stage obligation (R19). -/
def retireGraceful (s : State) (n : StationNo) : CommandOutcome :=
  let quiet := s.quietStation n
  if quiet.hasObligation n then
    .plain (quiet.updateRecord n (fun r => { r with life := .retiring })) .pending
  else .plain (quiet.becomeRetired n) .ok

/-- The cuts of RETIRE STATION IMMEDIATE: the places, the hold (without verdict or notice) and the stage obligation
(R22, R71, R91, R109). -/
def State.cutStation (s : State) (n : StationNo) : State :=
  ((s.freePlaces n).removeHold n).discardPrivateCopy.leaveOwed n

/-- RETIRE STATION IMMEDIATE: the steps of R18 on an ONLINE station, then the cuts, then RETIRED (R22). -/
def retireImmediate (s : State) (n : StationNo) (r : StationRecord) : CommandOutcome :=
  let quiet := if r.life = .online then s.quietStation n else s
  .plain ((quiet.cutStation n).becomeRetired n) .ok

/-- RETIRE STATION (R17): field 1 the station, field 2 the mode, 0 GRACEFUL or 1 IMMEDIATE. -/
def retireStationCommand (p : ParamBlock) (s : State) : CommandOutcome :=
  match stationField p[0] with
  | none => .badField s 1
  | some n =>
    if p[1] = 0 then withStation s n acceptsOnline (fun _ => retireGraceful s n)
    else if p[1] = 1 then withStation s n acceptsLive (fun r => retireImmediate s n r)
    else .badField s 2

/-- RETIRE_STATION_GRACEFUL (R19). -/
def execRetireStationGraceful (s : State) : Host.Outcome State Fault Refusal :=
  .next (s.issueRetire 0 retireStationCommand)

/-- RETIRE_STATION_IMMEDIATE (R22). -/
def execRetireStationImmediate (s : State) : Host.Outcome State Fault Refusal :=
  .next (s.issueRetire 1 retireStationCommand)

end Sys2Proof.Machine
end

