-- ==== Sys2Proof/Machine/Link.lean ====
section
/-! DEFINITION. The link interface (chapter 2): reception, replies, attachment, RESET LINK, and the end of every kind of frame. -/

namespace Sys2Proof.Machine

/-! ## RESET LINK and DETACH (sections 2.7, 2.8) -/

/-- What a RESET LINK frame or a DETACH does to one station, with the notices it adds together in R43: HOLD_WITHDRAWN for a hold
withdrawn, DATA_LOST for a stage obligation dropped, OUTBOUND_DONE for a CLOSING outbound settled (R90, R108, R122). `before` is
the state the frame or command found. -/
def State.resetStation (before : State) (n : StationNo) (s : State) : State :=
  let live := before.isLive n
  let closing := match before.record n with | none => false | some r => r.outbound.isClosing
  let t := if live then
      s.updateRecord n (fun r => { r with inbound := r.inbound.dropFilling, outbound := r.outbound.rewind })
    else s
  let t := if (before.pendingHold n).isSome then t.addNotice n .holdWithdrawn else t
  let t := if before.isOwed n then t.addNotice n .dataLost else t
  if live && closing then t.addNotice n .outboundDone else t

/-- The route emptied, the holds withdrawn, the stage dropped and the transfers reset, station by station in ascending number;
then the retirements this completes, in ascending number (R43, R44, R70, R90, R108, R122). -/
def State.resetTransfers (s : State) : State :=
  let t := { s.emptyRoute.clearAcceptedPorts with holds := [], privateCopy := none, stage := none }
  (t.forStations stationNumbers (State.resetStation s)).forStations stationNumbers State.reportRelease

/-- A RESET LINK frame (R44). -/
def State.takeResetLink (s : State) : State := s.linkResetSeen.resetTransfers

/-- DETACH on one station's mode: an ONLINE station becomes LOCAL without MODE_CHANGED (R42, R143). -/
def State.detachMode (n : StationNo) (s : State) : State :=
  s.updateRecord n (fun r => if r.life = .online then { r with mode := .unlockedLocal } else r)

/-- DETACH (R42): the link interface is DETACHED, its replies and the frame in reception are abandoned, the route, holds, stage and
transfers are reset, the device flags are cleared and the modes set LOCAL. -/
def detachCommand (_ : ParamBlock) (s : State) : CommandOutcome :=
  if s.attached then
    let t := s.resetTransfers.forStations stationNumbers State.detachMode
    .plain { t with
      attached := false
      reception := .awaitingGap
      replyWaiting := none
      replySending := none
      remoteEnable := false
      lockout := false } .ok
  else .plain s .already

/-- ATTACH (R41): from completion the link interface waits for an idle gap. -/
def attachCommand (_ : ParamBlock) (s : State) : CommandOutcome :=
  if s.attached then .plain s .already
  else .plain { s with attached := true, reception := .awaitingGap } .ok

/-- ATTACH (R41). -/
def execAttach (s : State) : Host.Outcome State Fault Refusal :=
  .next (s.issue 0x01 attachCommand)

/-- DETACH (R42). -/
def execDetach (s : State) : Host.Outcome State Fault Refusal :=
  .next (s.issue 0x02 detachCommand)

/-! ## Frames taken (R34) -/

/-- A good frame is dispatched by its kind to the block that owns it (R34). -/
def State.takeFrame (s : State) : ControllerFrame → State
  | .route talker listeners => s.takeRoute talker listeners
  | .data endMark body => s.takeData endMark body
  | .fetch => s.takeFetch
  | .poll a => s.takePoll a
  | .clear scope => s.takeClear scope
  | .trigger => s.takeTrigger
  | .remote on => s.takeRemote on
  | .lockout => s.takeLockout
  | .localFrame => s.takeLocal
  | .resetLink => s.takeResetLink
  | .privateFrame code body => s.takePrivate code body

/-! ## Reception (section 2.4) -/

/-- A start bit after an idle gap: a reply in waiting not yet begun is abandoned (R36), and a frame in reception begins with the
mark of the part's own LBUSY drive (R26, R33). -/
def State.startBit (s : State) : State :=
  { s with replyWaiting := none, reception := .receiving s.lbusy }

/-- Whether the frame in reception began while the part was driving LBUSY (R33). -/
def State.beganBusy (s : State) : Bool :=
  match s.reception with
  | .receiving b => b
  | _ => false

/-- The frame in reception has ended. -/
def State.frameOver (s : State) : State := { s with reception := .ready }

/-- The end of a frame of good shape and check and of a controller kind, judged by the last two tests of R32 and taken when it
passes them; `none` is a body that does not suit its kind (R30, R32, R33). -/
def State.judge (s : State) (f : Option ControllerFrame) : State :=
  let t := s.frameOver
  match f with
  | none => t.linkFault .damaged
  | some f =>
    if s.beganBusy && decide (f ≠ .resetLink) then t.linkFault .busyViolation
    else t.takeFrame f

/-- The end of a run of characters, with what it does once its frame in reception is there. Nothing is received while DETACHED
(R40) or before the first idle gap after ATTACH (R41). With no frame in reception the run's start bit comes in the same step
(log entry 6). -/
def State.atRunEnd (s : State) (f : State → State) : State :=
  if s.attached then
    match s.reception with
    | .awaitingGap => s
    | .ready => f s.startBit
    | .receiving _ => f s
  else s

/-- The end of a good controller frame (R32 to R34). -/
def State.frameEnds (s : State) (f : Option ControllerFrame) : State :=
  s.atRunEnd (fun t => t.judge f)

/-- A run that is one damaged frame (R26, R32). -/
def State.damagedRun (s : State) : State := s.frameOver.linkFault .damaged

/-- The end of a frame of good shape by its bytes, judged by all the tests of R32. -/
def State.judgeBytes (s : State) (type : Byte) (body : List Byte) (check : Byte) : State :=
  if check ≠ linkCheck (type :: BitVec.ofNat 8 body.length :: body) then s.damagedRun
  else if !typeKnown type then s.frameOver.linkFault .unknownType
  else if responderType type then s.frameOver
  else s.judge (parseFrame type body)

/-- The characters that follow a check byte with less than 2 µs of idle line are one damaged frame, whose start bit abandons a
reply not yet begun (R26, R36). -/
def State.trailingRun (s : State) (after : List LinkChar) : State :=
  if after = [] then s else (s.startBit).damagedRun

/-- The end of a run of raw characters (R26, R32). -/
def State.runEnds (s : State) : LinkRun → State
  | .afterIdle chars => s.atRunEnd (fun t =>
    match runShape chars with
    | .damaged => t.damagedRun
    | .frame type body check after => (t.judgeBytes type body check).trailingRun after)
  | .afterCheck _ => s.atRunEnd State.damagedRun

/-! ## The frame rows -/

/-- ROUTE (R61). -/
def execRoute (talker : AddressBytes) (listeners : List AddressBytes) (s : State) : Host.Outcome State Fault Refusal :=
  .next (s.frameEnds (routeFrame talker listeners))

/-- DATA (R97). -/
def execData (endMark : Bool) (body : List Byte) (s : State) : Host.Outcome State Fault Refusal :=
  .next (s.frameEnds (dataFrame endMark body))

/-- FETCH (R117). -/
def execFetch (s : State) : Host.Outcome State Fault Refusal :=
  .next (s.frameEnds (some .fetch))

/-- POLL (R132). -/
def execPoll (address : AddressBytes) (s : State) : Host.Outcome State Fault Refusal :=
  .next (s.frameEnds (pollFrame address))

/-- CLEAR (R145). -/
def execClear (scope : ClearScope) (s : State) : Host.Outcome State Fault Refusal :=
  .next (s.frameEnds (some (.clear scope)))

/-- TRIGGER (R148). -/
def execTrigger (s : State) : Host.Outcome State Fault Refusal :=
  .next (s.frameEnds (some .trigger))

/-- REMOTE (R139). -/
def execRemote (on : Bool) (s : State) : Host.Outcome State Fault Refusal :=
  .next (s.frameEnds (some (.remote on)))

/-- LOCKOUT (R140). -/
def execLockout (s : State) : Host.Outcome State Fault Refusal :=
  .next (s.frameEnds (some .lockout))

/-- LOCAL (R141). -/
def execLocalFrame (s : State) : Host.Outcome State Fault Refusal :=
  .next (s.frameEnds (some .localFrame))

/-- RESET_LINK (R44). -/
def execResetLink (s : State) : Host.Outcome State Fault Refusal :=
  .next (s.frameEnds (some .resetLink))

/-- PRIVATE (R81). -/
def execPrivateFrame (code : BitVec 6) (body : List Byte) (s : State) : Host.Outcome State Fault Refusal :=
  .next (s.frameEnds (privateLinkFrame code body))

/-- RESPONDER_FRAME (R31): ignored whatever its body; a length above 40 breaks the frame shape (R26). -/
def execResponderFrame (_isStatus : Bool) (body : List Byte) (s : State) : Host.Outcome State Fault Refusal :=
  .next (s.atRunEnd (fun t => if body.length ≤ 40 then t.frameOver else t.damagedRun))

/-- FRAME_DISCARDED (R32): a run of raw characters ends and is judged; a run that passes every test is taken (R34). -/
def execFrameDiscarded (run : LinkRun) (s : State) : Host.Outcome State Fault Refusal :=
  .next (s.runEnds run)

/-- FRAME_START (R26): a frame begins. A run still in reception ended at the idle gap before this start bit, as one damaged
frame. -/
def execFrameStart (s : State) : Host.Outcome State Fault Refusal :=
  .next (if s.attached then
    match s.reception with
    | .awaitingGap => s
    | .ready => s.startBit
    | .receiving _ => s.damagedRun.startBit
  else s)

/-- IDLE_GAP (R41): the first idle gap after ATTACH gives the receiver its footing; one that falls inside a frame ends the run as
one damaged frame (R26). -/
def execIdleGap (s : State) : Host.Outcome State Fault Refusal :=
  .next (if s.attached then
    match s.reception with
    | .awaitingGap => { s with reception := .ready }
    | .ready => s
    | .receiving _ => s.damagedRun
  else s)

/-! ## Replies (section 2.5) -/

/-- The levels of one character on the line, bit time by bit time: a low start bit, the eight data bits least significant first, and a high stop bit
(R25). -/
def characterLevels (b : Byte) : List Bool :=
  false :: (List.range 8).map (fun i => b.getLsbD i) ++ [true]

/-- The levels of a reply on the line, its characters with no gap between them (R25, R35). -/
def ReplyFrame.levels (f : ReplyFrame) : List Bool := (f.bytes.map characterLevels).flatten

/-- LTXD, high or low, in a bit time: while a reply is sent its levels, counted from the first start bit, and the high resting level after them and
whenever no reply is sent (R25, R39). How far the reply has come is left out (log entry 12), so the bit time is given. -/
def State.ltxd (s : State) (bitTime : Nat) : Bool :=
  match s.replySending with
  | none => true
  | some f => f.levels.getD bitTime true

/-- SEND_REPLY (R35): LTXEN is asserted and the reply in waiting begins to be sent, once no earlier reply is on the line. -/
def execSendReply (s : State) : Host.Outcome State Fault Refusal :=
  .next (match s.replyWaiting, s.replySending with
    | some f, none => { s with replyWaiting := none, replySending := some f }
    | _, _ => s)

/-- REPLY_SENT (R35): after the stop bit of the check byte LTXEN is deasserted. -/
def execReplySent (s : State) : Host.Outcome State Fault Refusal :=
  .next { s with replySending := none }

end Sys2Proof.Machine
end

