-- ==== Sys2Proof/Machine/HostPort.lean ====
section
/-! DEFINITION. The host port (chapter 11): the register window, COMMAND and its completion, the data port, and the hardware reset. -/

namespace Sys2Proof.Machine

/-! ## Completion (section 11.2) -/

/-- UNKNOWN_COMMAND (R167): no state of any block changes. -/
def unknownCommandAction (_ : ParamBlock) (s : State) : CommandOutcome := .plain s .unknownCommand

/-- The action of a command code, by the table of section 11.2. -/
def commandAction (code : Byte) : ParamBlock → State → CommandOutcome :=
  if code = 0x01 then attachCommand
  else if code = 0x02 then detachCommand
  else if code = 0x10 then defineStationCommand
  else if code = 0x11 then adjustStationCommand
  else if code = 0x12 then readStationCommand
  else if code = 0x13 then retireStationCommand
  else if code = 0x20 then setStatusCommand
  else if code = 0x21 then requestServiceCommand
  else if code = 0x22 then withdrawRequestCommand
  else if code = 0x28 then returnToLocalCommand
  else if code = 0x30 then postOutboundCommand
  else if code = 0x31 then cancelOutboundCommand
  else if code = 0x38 then releaseInboundCommand
  else if code = 0x40 then takeNoticeCommand
  else if code = 0x48 then readHoldCommand
  else if code = 0x49 then answerHoldCommand
  else if code = 0x50 then readRouteCommand
  else if code = 0x58 then setHoldLimitCommand
  else if code = 0x60 then forceTriggerCommand
  else unknownCommandAction

/-- COMMAND_COMPLETION (R168): the command in hand acts on the state as it stands; with none in hand there is nothing to
complete. -/
def execCommandCompletion (s : State) : Host.Outcome State Fault Refusal :=
  .next (match s.engine with
    | .busy code snapshot => (commandAction code snapshot s).finish
    | .idle => s
    | .done => s)

/-- UNKNOWN_COMMAND (R167): a command by its code, carried to completion. -/
def execUnknownCommand (code : Byte) (s : State) : Host.Outcome State Fault Refusal :=
  .next (s.issue code (commandAction code))

/-! ## The registers as they read (section 11.1) -/

/-- COMMAND: 0 IDLE, 1 BUSY, 2 DONE. -/
def Engine.byte : Engine → Byte
  | .idle => 0
  | .busy _ _ => 1
  | .done => 2

/-- FAULT_KIND: 0 none captured, 1 DAMAGED, 2 UNKNOWN_TYPE, 3 BUSY_VIOLATION. -/
def faultByte : Option FaultKind → Byte
  | none => 0
  | some .damaged => 1
  | some .unknownType => 2
  | some .busyViolation => 3

/-- The hold count of LINK_STATE: 0, 1, 2, or 3 for three or more (R178). -/
def State.holdCountBits (s : State) : Byte := BitVec.ofNat 8 (min 3 s.holds.length)

/-- LINK_STATE (R178). -/
def State.linkState (s : State) : Byte :=
  bitAt s.attached 0 ||| bitAt s.remoteEnable 1 ||| bitAt s.lockout 2 ||| bitAt s.lbusy 3 ||| bitAt s.lreq 4 |||
    bitAt s.stage.isSome 5 ||| (s.holdCountBits <<< 6)

/-- TRIGGER_STATE: the levels of TRG0 to TRG3 in bits 3–0 and the forced flags in bits 7–4 (R165, R178). DESIGN CHOICE, log entry 16: section 11.1
does not say which end of each group is line 0; line i is at bit i and its forced flag at bit 4 + i. -/
def State.triggerState (s : State) : Byte :=
  bitAt (s.triggerLevel 0) 0 ||| bitAt (s.triggerLevel 1) 1 ||| bitAt (s.triggerLevel 2) 2 ||| bitAt (s.triggerLevel 3) 3 |||
    bitAt (s.forced.get 0) 4 ||| bitAt (s.forced.get 1) 5 ||| bitAt (s.forced.get 2) 6 ||| bitAt (s.forced.get 3) 7

/-- The byte DATA reads at the pointer: the buffer byte, or 0x00 where the part owns it (R174). -/
def State.dataByte (s : State) : Byte :=
  if s.partOwned s.dataPointer.toNat then 0 else s.readByte s.dataPointer.toNat

/-- The value a read of each of the sixteen registers returns (R165). -/
def State.registerValue (s : State) (reg : BitVec 4) : Byte :=
  match reg.toNat with
  | 0x0 => s.engine.byte
  | 0x1 => s.result.byte
  | 0x2 => BitVec.ofNat 8 s.paramIndex.val
  | 0x3 => s.params.get s.paramIndex
  | 0x4 => s.dataPointer.setWidth 8
  | 0x5 => (s.dataPointer >>> 8).setWidth 8
  | 0x6 => s.dataByte
  | 0x7 => s.irqEnable.setWidth 8
  | 0x8 => s.causes.setWidth 8
  | 0x9 => s.linkState
  | 0xA => s.device.byte
  | 0xB => faultByte s.faultKind
  | 0xC => stationByte s.deniedStation
  | 0xD => s.refusedAddress.setWidth 8
  | 0xE => (s.refusedAddress >>> 8).setWidth 8
  | _ => s.triggerState

/-- A host access: it is taken whole, unless NRST is low, when the host port takes no access and drives nothing (R166). -/
def State.access (s : State) (f : State → State) : State :=
  if s.nrstLow then s else f s

/-- A host read access: the byte read is driven on D0–D7, and the side effect follows (R166). -/
def State.readAccess (s : State) (reg : BitVec 4) (f : State → State) : State :=
  if s.nrstLow then { s with readData := none } else { f s with readData := some (s.registerValue reg) }

/-- Whether the command engine is BUSY. -/
def State.busyEngine (s : State) : Bool :=
  match s.engine with
  | .busy _ _ => true
  | _ => false

/-- READ_RESULT (R169): the code is returned, and a DONE engine moves to IDLE. -/
def execReadResult (s : State) : Host.Outcome State Fault Refusal :=
  .next (s.readAccess 0x1 (fun t => if t.engine = .done then { t with engine := .idle } else t))

/-- A write to PARAM_INDEX: the low five bits, or COMMAND_OVERRUN while BUSY (R170, R171). -/
def State.writeParamIndex (s : State) (v : Byte) : State :=
  if s.busyEngine then s.commandOverrun else { s with paramIndex := Fin.ofNat 32 v.toNat }

/-- A write to PARAM_DATA: the byte is stored at the index, which advances from 31 to 0, or COMMAND_OVERRUN while BUSY
(R170, R171). -/
def State.writeParamData (s : State) (v : Byte) : State :=
  if s.busyEngine then s.commandOverrun
  else { s with params := s.params.set s.paramIndex v, paramIndex := s.paramIndex + 1 }

/-- A write to COMMAND: acceptance, or COMMAND_OVERRUN while BUSY (R167, R170). -/
def State.writeCommand (s : State) (v : Byte) : State :=
  if s.busyEngine then s.commandOverrun else s.accept v

/-- PARAM_INDEX_WRITE (R171). -/
def execParamIndexWrite (v : Byte) (s : State) : Host.Outcome State Fault Refusal :=
  .next (s.access (fun t => t.writeParamIndex v))

/-- PARAM_DATA_WRITE (R171). -/
def execParamDataWrite (v : Byte) (s : State) : Host.Outcome State Fault Refusal :=
  .next (s.access (fun t => t.writeParamData v))

/-- PARAM_DATA_READ (R171): the byte at the index is returned and the index advances, in every engine state. -/
def execParamDataRead (s : State) : Host.Outcome State Fault Refusal :=
  .next (s.readAccess 0x3 (fun t => { t with paramIndex := t.paramIndex + 1 }))

/-! ## The data port (section 11.4) -/

/-- The data pointer advances by one, from 8191 to 0 (R173). -/
def State.advancePointer (s : State) : State := { s with dataPointer := s.dataPointer + 1 }

/-- The side effects of a read of DATA: ACCESS_REFUSED at a part-owned byte, and the advance of the pointer (R174, R175). -/
def State.passDataRead (s : State) : State :=
  if s.partOwned s.dataPointer.toNat then (s.accessRefused s.dataPointer).advancePointer else s.advancePointer

/-- A write of DATA: stored at a host-owned byte, dropped with ACCESS_REFUSED at a part-owned one, and the pointer advances
(R174, R175). -/
def State.writeData (s : State) (v : Byte) : State :=
  if s.partOwned s.dataPointer.toNat then (s.accessRefused s.dataPointer).advancePointer
  else { s with memory := Memory.write s.memory s.dataPointer.toNat v }.advancePointer

/-- DATA_READ (R174). -/
def execDataRead (s : State) : Host.Outcome State Fault Refusal :=
  .next (s.readAccess 0x6 State.passDataRead)

/-- DATA_WRITE (R174). -/
def execDataWrite (v : Byte) (s : State) : Host.Outcome State Fault Refusal :=
  .next (s.access (fun t => t.writeData v))

/-! ## The other registers -/

/-- A write to IRQ_ENABLE sets the four enables (R162). -/
def State.writeIrqEnable (s : State) (v : Byte) : State := { s with irqEnable := v.setWidth 4 }

/-- A write to DEVICE_NOTICE clears each flag written as one (R161). -/
def State.writeDeviceNotice (s : State) (v : Byte) : State := { s with device := s.device.clear v }

/-- A write to DATA_PTR_LO replaces pointer bits 7–0 (R173). -/
def State.writePointerLow (s : State) (v : Byte) : State :=
  { s with dataPointer := (s.dataPointer >>> 8 <<< 8) ||| v.setWidth 13 }

/-- A write to DATA_PTR_HI replaces pointer bits 12–8 from bits 4–0 (R173). -/
def State.writePointerHigh (s : State) (v : Byte) : State :=
  { s with dataPointer := (s.dataPointer &&& 0xFF) ||| (v.setWidth 13 <<< 8) }

/-- A write to one of the sixteen registers, by the window table (R165, R166). -/
def State.writeRegister (s : State) (reg : BitVec 4) (v : Byte) : State :=
  match reg.toNat with
  | 0x0 => s.writeCommand v
  | 0x2 => s.writeParamIndex v
  | 0x3 => s.writeParamData v
  | 0x4 => s.writePointerLow v
  | 0x5 => s.writePointerHigh v
  | 0x6 => s.writeData v
  | 0x7 => s.writeIrqEnable v
  | 0xA => s.writeDeviceNotice v
  | _ => s

/-- IRQ_ENABLE_WRITE (R162). -/
def execIrqEnableWrite (v : Byte) (s : State) : Host.Outcome State Fault Refusal :=
  .next (s.access (fun t => t.writeIrqEnable v))

/-- DEVICE_NOTICE_WRITE (R161). -/
def execDeviceNoticeWrite (v : Byte) (s : State) : Host.Outcome State Fault Refusal :=
  .next (s.access (fun t => t.writeDeviceNotice v))

/-- REGISTER_WRITE (R166): COMMAND, the data pointer registers, and the registers the window table marks ignored. -/
def execRegisterWrite (reg : BitVec 4) (v : Byte) (s : State) : Host.Outcome State Fault Refusal :=
  .next (s.access (fun t => t.writeRegister reg v))

/-! ## Hardware reset (R1, R39, R179) -/

/-- The state a hardware reset leaves: every block in its reset state, NRST low until its release. Buffer memory is kept through
NRST and undefined after power-on (R177). The queue of waiting commands is not the part's. -/
def State.hardwareReset (s : State) (powerOn : Bool) : State :=
  { State.reset with
    memory := if powerOn then [] else s.memory
    powerOns := if powerOn then s.powerOns + 1 else s.powerOns
    freeCount := s.freeCount
    nrstLow := true
    pending := s.pending }

/-- HARDWARE_RESET (R1). -/
def execHardwareReset (powerOn : Bool) (s : State) : Host.Outcome State Fault Refusal :=
  .next (s.hardwareReset powerOn)

/-- NRST_RELEASE (R39, R166): the reset ends and the host port begins to take accesses again. -/
def execNrstRelease (s : State) : Host.Outcome State Fault Refusal :=
  .next { s with nrstLow := false }

end Sys2Proof.Machine
end

