-- ==== Sys2Proof/Machine/Dispatch.lean ====
section
/-! DEFINITION. `exec`: the meaning of every command, one arm for each row of spec/opcode_table.json. -/

namespace Sys2Proof.Machine

/-- The effect of a command on everything but the queue. -/
def exec (i : Instr) (s : State) : Host.Outcome State Fault Refusal :=
  match i with
  | .hardwareReset powerOn => Sys2Proof.Machine.execHardwareReset powerOn s
  | .route talker listeners => Sys2Proof.Machine.execRoute talker listeners s
  | .data endMark body => Sys2Proof.Machine.execData endMark body s
  | .fetch => Sys2Proof.Machine.execFetch s
  | .poll address => Sys2Proof.Machine.execPoll address s
  | .clear scope => Sys2Proof.Machine.execClear scope s
  | .trigger => Sys2Proof.Machine.execTrigger s
  | .remote on => Sys2Proof.Machine.execRemote on s
  | .lockout => Sys2Proof.Machine.execLockout s
  | .localFrame => Sys2Proof.Machine.execLocalFrame s
  | .resetLink => Sys2Proof.Machine.execResetLink s
  | .privateFrame code body => Sys2Proof.Machine.execPrivateFrame code body s
  | .responderFrame isStatus body => Sys2Proof.Machine.execResponderFrame isStatus body s
  | .frameDiscarded run => Sys2Proof.Machine.execFrameDiscarded run s
  | .sendReply => Sys2Proof.Machine.execSendReply s
  | .replySent => Sys2Proof.Machine.execReplySent s
  | .holdExpiry => Sys2Proof.Machine.execHoldExpiry s
  | .stageExpiry => Sys2Proof.Machine.execStageExpiry s
  | .commandCompletion => Sys2Proof.Machine.execCommandCompletion s
  | .attach => Sys2Proof.Machine.execAttach s
  | .detach => Sys2Proof.Machine.execDetach s
  | .defineStation => Sys2Proof.Machine.execDefineStation s
  | .adjustStation => Sys2Proof.Machine.execAdjustStation s
  | .readStation => Sys2Proof.Machine.execReadStation s
  | .retireStationGraceful => Sys2Proof.Machine.execRetireStationGraceful s
  | .retireStationImmediate => Sys2Proof.Machine.execRetireStationImmediate s
  | .setStatus => Sys2Proof.Machine.execSetStatus s
  | .requestService => Sys2Proof.Machine.execRequestService s
  | .withdrawRequest => Sys2Proof.Machine.execWithdrawRequest s
  | .returnToLocal => Sys2Proof.Machine.execReturnToLocal s
  | .postOutbound => Sys2Proof.Machine.execPostOutbound s
  | .cancelOutbound => Sys2Proof.Machine.execCancelOutbound s
  | .releaseInbound => Sys2Proof.Machine.execReleaseInbound s
  | .takeNotice => Sys2Proof.Machine.execTakeNotice s
  | .readHold => Sys2Proof.Machine.execReadHold s
  | .answerHold => Sys2Proof.Machine.execAnswerHold s
  | .readRoute => Sys2Proof.Machine.execReadRoute s
  | .setHoldLimit => Sys2Proof.Machine.execSetHoldLimit s
  | .forceTrigger => Sys2Proof.Machine.execForceTrigger s
  | .unknownCommand code => Sys2Proof.Machine.execUnknownCommand code s
  | .readResult => Sys2Proof.Machine.execReadResult s
  | .paramIndexWrite value => Sys2Proof.Machine.execParamIndexWrite value s
  | .paramDataWrite value => Sys2Proof.Machine.execParamDataWrite value s
  | .paramDataRead => Sys2Proof.Machine.execParamDataRead s
  | .dataRead => Sys2Proof.Machine.execDataRead s
  | .dataWrite value => Sys2Proof.Machine.execDataWrite value s
  | .irqEnableWrite value => Sys2Proof.Machine.execIrqEnableWrite value s
  | .deviceNoticeWrite value => Sys2Proof.Machine.execDeviceNoticeWrite value s
  | .registerWrite register value => Sys2Proof.Machine.execRegisterWrite register value s
  | .frameStart => Sys2Proof.Machine.execFrameStart s
  | .idleGap => Sys2Proof.Machine.execIdleGap s
  | .millisecondStep => Sys2Proof.Machine.execMillisecondStep s
  | .nrstRelease => Sys2Proof.Machine.execNrstRelease s

end Sys2Proof.Machine
end

