-- ==== Sys2Proof/Safety.lean ====
section
/-! DEFINITION. What holds of every state a run reaches: the laws the specification states of the machine as a whole, one predicate for
each, and their conjunction `State.Inv`. -/

namespace Sys2Proof.Machine

/-! ## Notices and modes -/

/-- The notice list holds exactly the stations whose notice set is not empty, each once (R155). -/
def State.noticeListLaw (s : State) : Prop :=
  s.noticeList.Nodup ∧
    ∀ n, n ∈ s.noticeList ↔ ∃ r, s.record n = some r ∧ r.notices ≠ NoticeSet.none

/-- A record's notice set holds RETIRED exactly while the record is RETIRED (R24, R154). -/
def State.retiredNoticeLaw (s : State) : Prop :=
  ∀ n r, s.record n = some r → (r.notices.retired = true ↔ r.life = .retired)

/-- Lockout is in force only while remote is enabled, and the modes of ONLINE stations follow the flags (R138). -/
def State.modeLaw (s : State) : Prop :=
  (s.lockout = true → s.remoteEnable = true) ∧
    ∀ n r, s.record n = some r → r.life = .online →
      (s.remoteEnable = false → r.mode = .unlockedLocal) ∧
      (s.remoteEnable = true → s.lockout = false → r.mode = .unlockedLocal ∨ r.mode = .unlockedRemote) ∧
      (s.lockout = true → r.mode = .lockedLocal ∨ r.mode = .lockedRemote)

/-! ## The laws DEFINE STATION keeps -/

/-- No ROUTE address is matched by more than one ONLINE station (R12, R50). -/
def State.addressLaw (s : State) : Prop :=
  ∀ n m r q a, s.record n = some r → s.record m = some q → r.life = .online → q.life = .online →
    r.matchesRoute a = true → q.matchesRoute a = true → n = m

/-- Which of a station's two regions: the inbound or the outbound one. -/
def StationRecord.region (r : StationRecord) (inbound : Bool) : Option Region :=
  if inbound then r.inRegion else r.outRegion

/-- The regions of all ONLINE and RETIRING stations are pairwise disjoint, and each lies within pages 0 to 255 with 1 to 64 pages
(R4, R13). -/
def State.regionLaw (s : State) : Prop :=
  (∀ n r i g, s.record n = some r → r.life ≠ .retired → r.region i = some g →
    1 ≤ g.count ∧ g.count ≤ 64 ∧ g.first.val + g.count ≤ 256) ∧
  (∀ n m r q i j g h a, s.record n = some r → s.record m = some q → r.life ≠ .retired → q.life ≠ .retired →
    r.region i = some g → q.region j = some h → g.contains a = true → h.contains a = true → n = m ∧ i = j)

/-! ## Records -/

/-- The inbound state agrees with its region: no fill length exceeds the capacity, FILLING holds 1 to capacity − 1 bytes, and a
station without a region is EMPTY (R95). -/
def StationRecord.inboundLaw (r : StationRecord) : Prop :=
  match r.inbound with
  | .empty => True
  | .filling f => 1 ≤ f ∧ f + 1 ≤ regionCapacity r.inRegion
  | .complete f _ => r.inRegion ≠ none ∧ f ≤ regionCapacity r.inRegion

/-- The outbound state agrees with its region: the posted length never exceeds the capacity, a POSTED length of 0 has the end flag,
and in SENDING and CLOSING the cursor lies strictly between 0 and the posted length (R113). -/
def StationRecord.outboundLaw (r : StationRecord) : Prop :=
  match r.outbound with
  | .empty => True
  | .posted n e => r.outRegion ≠ none ∧ n ≤ regionCapacity r.outRegion ∧ (n = 0 → e = true)
  | .sending n _ c => n ≤ regionCapacity r.outRegion ∧ 1 ≤ c ∧ c + 1 ≤ n
  | .closing n _ c => n ≤ regionCapacity r.outRegion ∧ 1 ≤ c ∧ c + 1 ≤ n

/-- A record's fields agree: a unit allowed for the width (R2), a role at least, each region present exactly with its role until
RETIRED (R4), the transfers as R95 and R113 have them, a station no longer ONLINE quiet with its outbound EMPTY (R18), and a RETIRED
one as R23 leaves it. -/
def StationRecord.wellFormed (r : StationRecord) : Prop :=
  unitAllowed r.width r.unit.val = true ∧
  (r.mayTalk = true ∨ r.mayListen = true) ∧
  (r.inRegion ≠ none ↔ r.mayListen = true ∧ r.life ≠ .retired) ∧
  (r.outRegion ≠ none ↔ r.mayTalk = true ∧ r.life ≠ .retired) ∧
  r.inboundLaw ∧ r.outboundLaw ∧
  (r.acceptedPort ≠ none → r.policy = .openPort) ∧
  (r.life ≠ .online → r.request = .quiet ∧ r.outbound = .empty) ∧
  (r.life = .retired → r.inbound = .empty ∧ r.mode = .unlockedLocal ∧ r.lastMatched = none ∧ r.acceptedPort = none)

/-- Every record that is not FREE is well formed. -/
def State.recordLaw (s : State) : Prop := ∀ n r, s.record n = some r → r.wellFormed

/-! ## Route, holds and stage -/

/-- The occupant of the talk seat or of a lane: `none` is the talk seat. -/
def State.place (s : State) (i : Option LaneNo) : Option Place :=
  match i with
  | none => s.talkSeat
  | some l => s.lane l

/-- No station occupies two places, every occupant is ONLINE or RETIRING with the role its place needs (R59), and an accepted port is
present only while its station has a place (R56). -/
def State.routeLaw (s : State) : Prop :=
  (∀ i j p q, s.place i = some p → s.place j = some q → p.station = q.station → i = j) ∧
  (∀ i p, s.place i = some p → ∃ r, s.record p.station = some r ∧ r.life ≠ .retired ∧
    (if i = none then r.mayTalk = true else r.mayListen = true) ∧ (p.tentative = true → r.policy = .openPort)) ∧
  (∀ n r, s.record n = some r → r.acceptedPort ≠ none → ∃ i, s.place i = some ⟨n, false⟩)

/-- The hold list holds each station at most once, and only ONLINE and RETIRING ones; a PORT hold is pending exactly for the stations
in tentative places; a timed hold has at least one millisecond remaining; and the private frame copy is kept exactly while a PRIVATE hold is
pending (R76, R67, R80, R81). -/
def State.holdLaw (s : State) : Prop :=
  (s.holds.map (fun h => h.station)).Nodup ∧
  (∀ h ∈ s.holds, s.isLive h.station = true) ∧
  (∀ n, (∃ i, s.place i = some ⟨n, true⟩) ↔ ∃ h ∈ s.holds, h.station = n ∧ ∃ u q, h.kind = .port u q) ∧
  (∀ h ∈ s.holds, ∀ t, h.remaining = some t → 1 ≤ t ∧ t ≤ 255) ∧
  (s.privateCopy ≠ none ↔ ∃ h ∈ s.holds, h.kind = .privateFrame)

/-- A stage holds a DATA body and owes it to at least one station, in ascending order without repeats; every station owed is seated in a
lane, has its inbound COMPLETE and no hold pending (R102, R103, R77). -/
def State.stageLaw (s : State) : Prop :=
  ∀ g, s.stage = some g →
    g.body.length ≤ 32 ∧ (g.endMark = true ∨ g.body ≠ []) ∧
    g.owed ≠ [] ∧ g.owed.Pairwise (fun a b => a < b) ∧
    (∀ t, g.remaining = some t → 1 ≤ t ∧ t ≤ 255) ∧
    (∀ n ∈ g.owed, (∃ l, s.lane l = some ⟨n, false⟩) ∧ s.pendingHold n = none ∧
      ∃ r, s.record n = some r ∧ r.inbound.isComplete = true)

/-- A RETIRING station has a seat, a pending hold or a stage obligation (R21). -/
def State.retiringLaw (s : State) : Prop :=
  ∀ n, s.hasLife n .retiring = true → s.hasObligation n = true

/-! ## Link interface and host port -/

/-- While DETACHED the route, the holds and the stage are empty, no reply waits or is sent, nothing is in reception, and both device flags
are clear; and while a frame that began outside the LBUSY drive is in reception, the drive has not begun (R33, R40, R42). -/
def State.linkLaw (s : State) : Prop :=
  (s.attached = false →
    (∀ i, s.place i = none) ∧ s.holds = [] ∧ s.stage = none ∧ s.replyWaiting = none ∧ s.replySending = none ∧
      s.reception = .awaitingGap ∧ s.remoteEnable = false ∧ s.lockout = false) ∧
  (s.reception = .receiving false → s.lbusy = false)

/-- While a command is in hand the parameter block is as it was at acceptance and RESULT reads 0x00 (R169, R170); while NRST is low
the link interface is DETACHED and the engine IDLE (R39, R179). -/
def State.hostLaw (s : State) : Prop :=
  (∀ c p, s.engine = .busy c p → p = s.params ∧ s.result = .noneYet) ∧
  (s.nrstLow = true → s.attached = false ∧ s.engine = .idle)

/-- The buffer memory is in its canonical form. -/
def State.memoryLaw (s : State) : Prop := Memory.wf s.memory = true

/-- Everything together. -/
structure State.Inv (s : State) : Prop where
  noticeList : s.noticeListLaw
  retiredNotice : s.retiredNoticeLaw
  modes : s.modeLaw
  addresses : s.addressLaw
  regions : s.regionLaw
  records : s.recordLaw
  route : s.routeLaw
  holds : s.holdLaw
  stage : s.stageLaw
  retiring : s.retiringLaw
  link : s.linkLaw
  host : s.hostLaw
  memory : s.memoryLaw

end Sys2Proof.Machine
end

