-- ==== Sys2Proof/WellFormed.lean ====
section
/-! DEFINITION. When a command is well formed: its operands are ones its row can have. -/

namespace Sys2Proof

/-- The codes of the command table of section 11.2. -/
def commandCodes : List Byte :=
  [0x01, 0x02, 0x10, 0x11, 0x12, 0x13, 0x20, 0x21, 0x22, 0x28, 0x30, 0x31, 0x38, 0x40, 0x48, 0x49, 0x50, 0x58, 0x60]

/-- The registers whose write is a row of its own: PARAM_INDEX, PARAM_DATA, DATA, IRQ_ENABLE and DEVICE_NOTICE. -/
def ownRowRegisters : List (BitVec 4) := [0x2, 0x3, 0x6, 0x7, 0xA]

/-- A run has at least one character. -/
def LinkRun.nonempty : LinkRun → Bool
  | .afterIdle cs => !cs.isEmpty
  | .afterCheck cs => !cs.isEmpty

/-- A frame row's contents suit its kind (R30), a responder frame's length can be carried (R26), a run is not empty, an unknown
command's code is not in the command table (R167), and a REGISTER_WRITE names a register whose write has no row of its own. -/
def Instr.wellFormed : Instr → Bool
  | .hardwareReset _ => true
  | .route t ls => (Machine.routeFrame t ls).isSome
  | .data e b => (Machine.dataFrame e b).isSome
  | .fetch => true
  | .poll a => (Machine.pollFrame a).isSome
  | .clear _ => true
  | .trigger => true
  | .remote _ => true
  | .lockout => true
  | .localFrame => true
  | .resetLink => true
  | .privateFrame c b => (Machine.privateLinkFrame c b).isSome
  | .responderFrame _ b => decide (b.length ≤ 40)
  | .frameDiscarded r => r.nonempty
  | .sendReply => true
  | .replySent => true
  | .holdExpiry => true
  | .stageExpiry => true
  | .commandCompletion => true
  | .attach => true
  | .detach => true
  | .defineStation => true
  | .adjustStation => true
  | .readStation => true
  | .retireStationGraceful => true
  | .retireStationImmediate => true
  | .setStatus => true
  | .requestService => true
  | .withdrawRequest => true
  | .returnToLocal => true
  | .postOutbound => true
  | .cancelOutbound => true
  | .releaseInbound => true
  | .takeNotice => true
  | .readHold => true
  | .answerHold => true
  | .readRoute => true
  | .setHoldLimit => true
  | .forceTrigger => true
  | .unknownCommand c => !commandCodes.contains c
  | .readResult => true
  | .paramIndexWrite _ => true
  | .paramDataWrite _ => true
  | .paramDataRead => true
  | .dataRead => true
  | .dataWrite _ => true
  | .irqEnableWrite _ => true
  | .deviceNoticeWrite _ => true
  | .registerWrite r _ => !ownRowRegisters.contains r
  | .frameStart => true
  | .idleGap => true
  | .millisecondStep => true
  | .nrstRelease => true

end Sys2Proof
end

