-- ==== Sys2Proof/Certificates/Slice0/Obligations.lean ====
section
/-! DEFINITION. The statements about the TL632, each written from the rules of spec/ it names, with the words they are written in. -/

namespace Sys2Proof.Claims

open Sys2Proof.Machine

/-! ## Words for the host's commands -/

/-- The host can issue a command that is accepted and completes: NRST is high and no command is in hand. -/
def Ready (s : State) : Prop := s.nrstLow = false ∧ ∀ c p, s.engine ≠ .busy c p

/-- Field 1 of the parameter block names the station. -/
def Names (s : State) (n : StationNo) : Prop := s.params[0].toNat = n.val

/-- The station is ONLINE with this record. -/
def Online (s : State) (n : StationNo) (r : StationRecord) : Prop := s.record n = some r ∧ r.life = .online

/-- The state `t` once the command engine is DONE with a result and a parameter block. -/
def completed (t : State) (result : ResultCode) (params : ParamBlock) : State :=
  { t with engine := .done, result := result, params := params }

/-- The command completes with OK, no result bytes and byte 31 at 0, and leaves the state `t` otherwise. -/
def okay (s t : State) : State := completed t .ok (s.params.set 31 0)

/-- The command is refused: only RESULT, byte 31 and the engine change (R8, R10, R172). -/
def refused (s : State) (result : ResultCode) (detail : Byte) : State := completed s result (s.params.set 31 detail)

/-- The checks a command that names a station makes: field 1, and with its other fields passed the life state (R8). -/
def Refuses (c : Instr) (accepts : LifeState → Prop) (fieldsPass : Prop) (s : State) : Prop :=
  (32 ≤ s.params[0].toNat → exec c s = .next (refused s .badField 1)) ∧
  (fieldsPass → ∀ n, Names s n → s.record n = none → exec c s = .next (refused s .notDefined 0)) ∧
  (fieldsPass → ∀ n r, Names s n → s.record n = some r → ¬ accepts r.life → exec c s = .next (refused s .notOnline 0))

/-- Only an ONLINE station is accepted. -/
def online (l : LifeState) : Prop := l = .online

/-- ONLINE and RETIRING stations are accepted. -/
def live (l : LifeState) : Prop := l ≠ .retired

/-! ## The numbers of the codes -/

/-- The number of a result code, by the table of R169. -/
def resultNumber : ResultCode → Nat
  | .noneYet => 0 | .ok => 1 | .pending => 2 | .already => 3 | .badField => 4 | .noFreeStation => 5 | .stationInUse => 6
  | .notDefined => 7 | .notOnline => 8 | .addressInUse => 9 | .regionInUse => 10 | .outboundBusy => 11 | .nothingToCancel => 12
  | .inboundNotHeld => 13 | .noHold => 14 | .requestUnwithdrawn => 15 | .locked => 16 | .alreadyLocal => 17 | .empty => 18
  | .unknownCommand => 19

/-- The number of a hold kind; 0 is an absent hold (R172). -/
def kindNumber : HoldKind → Nat
  | .port _ _ => 1 | .clear _ => 2 | .trigger => 3 | .endOfMessage => 4 | .privateFrame => 5

/-- The number of a match width (R172). -/
def widthNumber : MatchWidth → Nat
  | .exact => 0 | .pair => 1 | .quad => 2

/-- The number of a captured fault kind; 0 is none captured (R165). -/
def faultNumber : Option FaultKind → Nat
  | none => 0 | some .damaged => 1 | some .unknownType => 2 | some .busyViolation => 3

/-- A notice set as a number of two bytes, one bit for each kind (R172). -/
def noticeNumber (ns : NoticeSet) : Nat :=
  ns.inboundComplete.toNat + 2 * ns.outboundDone.toNat + 4 * ns.dataLost.toNat + 8 * ns.polled.toNat + 16 * ns.modeChanged.toNat +
    32 * ns.cleared.toNat + 64 * ns.triggered.toNat + 128 * ns.seatDenied.toNat + 256 * ns.holdExpired.toNat +
    512 * ns.holdWithdrawn.toNat + 1024 * ns.retired.toNat

/-- The five device notice flags as a number (R165). -/
def deviceNumber (d : DeviceNotices) : Nat :=
  d.linkResetSeen.toNat + 2 * d.linkFault.toNat + 4 * d.laneOverflow.toNat + 8 * d.accessRefused.toNat + 16 * d.commandOverrun.toNat

/-! ## Words for frames -/

/-- The part is ATTACHED and a frame that began outside its own LBUSY drive is in reception (R26, R33). -/
def InFrame (s : State) : Prop := s.attached = true ∧ s.reception = .receiving false

/-- The frame in reception has ended. -/
def ended (s : State) : State := { s with reception := .ready }

/-- The frame has ended and is reported as a link fault, the first since the flag was clear being kept (R32). -/
def faulted (s : State) (k : FaultKind) : State :=
  { s with
    reception := .ready
    device := { s.device with linkFault := true }
    faultKind := if s.device.linkFault then s.faultKind else some k }

/-- The rows of controller frames whose contents suit their kind, other than RESET LINK. -/
def controllerFrame : Instr → Bool
  | .route t ls => (routeFrame t ls).isSome
  | .data e b => (dataFrame e b).isSome
  | .fetch => true
  | .poll a => (pollFrame a).isSome
  | .clear _ => true
  | .trigger => true
  | .remote _ => true
  | .lockout => true
  | .localFrame => true
  | .privateFrame c b => (privateLinkFrame c b).isSome
  | _ => false

/-- The rows at which a run of characters on the line ends. -/
def runEnd : Instr → Bool
  | .resetLink => true
  | .responderFrame _ b => decide (b.length ≤ 40)
  | .frameDiscarded _ => true
  | c => controllerFrame c

/-- The type and body bytes of a frame row, by the frame layout table of section 2.3. -/
def wire : Instr → Option (Byte × List Byte)
  | .route t ls => some (0x10, t.unitByte :: t.portByte :: BitVec.ofNat 8 ls.length ::
      (ls.map (fun a => [a.unitByte, a.portByte])).flatten)
  | .data false b => some (0x20, b)
  | .data true b => some (0x21, b)
  | .fetch => some (0x30, [])
  | .poll a => some (0x40, [a.unitByte, a.portByte])
  | .clear .all => some (0x60, [0])
  | .clear .listeners => some (0x60, [1])
  | .trigger => some (0x68, [])
  | .remote false => some (0x70, [0])
  | .remote true => some (0x70, [1])
  | .lockout => some (0x74, [])
  | .localFrame => some (0x78, [])
  | .resetLink => some (0x7F, [])
  | .privateFrame c b => some (0x80 + c.setWidth 8, b)
  | .responderFrame false b => some (0x38, b)
  | .responderFrame true b => some (0x48, b)
  | _ => none

/-- A frame's bytes: type, length, body and check (R26, R27). -/
def framed (type : Byte) (body : List Byte) : List Byte :=
  type :: BitVec.ofNat 8 body.length :: body ++ [linkCheck (type :: BitVec.ofNat 8 body.length :: body)]

/-- Good characters, each with its stop bit high. -/
def chars (bytes : List Byte) : List LinkChar := bytes.map (fun b => ⟨b, true⟩)

/-! ## Words for notices and holds -/

/-- The notice list once a station with this record has been given a notice (R155). -/
def joins (s : State) (n : StationNo) (r : StationRecord) : List StationNo :=
  if r.notices = NoticeSet.none then s.noticeList ++ [n] else s.noticeList

/-- Those of the stations that stand outside the notice list because their sets are empty (R155). -/
def quietOnes (s : State) (ns : List StationNo) : List StationNo :=
  ns.filter (fun n => match s.record n with | none => false | some r => decide (r.notices = NoticeSet.none))

/-- The timer a hold or a stage starts with: none for the hold limit 0, else the limit (R80, R104). -/
def timer (s : State) : Option Nat := if s.holdLimit.toNat = 0 then none else some s.holdLimit.toNat

/-- Holds raised in one happening, in this order, with consecutive tags (R77, R78). -/
def raised (s : State) (hs : List (StationNo × HoldKind)) : List Hold :=
  hs.zipIdx.map (fun h => ⟨h.1.1, h.1.2, s.holdTag + BitVec.ofNat 8 h.2, timer s⟩)

/-- The private frame copy once these holds are all that is left (R81, R88). -/
def copyKept (s : State) (hs : List Hold) : Option PrivateCopy :=
  if hs.any (fun h => decide (h.kind = .privateFrame)) then s.privateCopy else none

/-- The record of a station that becomes RETIRED (R23). -/
def retired (r : StationRecord) : StationRecord :=
  { r with
    life := .retired
    inbound := .empty
    mode := .unlockedLocal
    inRegion := none
    outRegion := none
    lastMatched := none
    acceptedPort := none
    notices := { r.notices with triggered := false, retired := true } }

/-- The record after the clear effects and CLEARED (R146). -/
def cleared (r : StationRecord) : StationRecord :=
  { r with
    inbound := match r.inbound with | .filling _ => .empty | i => i
    outbound := .empty
    notices := { r.notices with cleared := true } }

/-- The record with its control mode changed by the link (R137). -/
def moved (m : ControlMode) (r : StationRecord) : StationRecord :=
  { r with mode := m, notices := { r.notices with modeChanged := true } }

/-- The control mode under remote control, its lockout mark kept (R66). -/
def underRemote : ControlMode → ControlMode
  | .unlockedLocal => .unlockedRemote
  | .lockedLocal => .lockedRemote
  | m => m

/-- The record after the remote transition of a listener (R66). -/
def transition (s : State) (r : StationRecord) : StationRecord :=
  if s.remoteEnable = true ∧ underRemote r.mode ≠ r.mode then moved (underRemote r.mode) r else r

/-- The station holds a place, seated or tentative. -/
def Placed (s : State) (n : StationNo) : Prop := ∃ i p, s.place i = some p ∧ p.station = n

/-- The station has a pending hold. -/
def Held (s : State) (n : StationNo) : Prop := ∃ h ∈ s.holds, h.station = n

/-- The station is owed the staged frame. -/
def Owed (s : State) (n : StationNo) : Prop := ∃ g, s.stage = some g ∧ n ∈ g.owed

/-- The station has a seat, a pending hold or a stage obligation (R19). -/
def Obliged (s : State) (n : StationNo) : Prop := Placed s n ∨ Held s n ∨ Owed s n

/-- The stage once the station has left its owed set (R102). -/
def stageWithout (s : State) (n : StationNo) : Option Stage :=
  match s.stage with
  | none => none
  | some g =>
    let rest := g.owed.filter (fun m => decide (m ≠ n))
    if rest = [] then none else some { g with owed := rest }

/-- The part owns the byte of buffer memory: it lies in the inbound region of an ONLINE or RETIRING station whose inbound is EMPTY or
FILLING, or in the outbound region of such a station whose outbound is not EMPTY (R174). -/
def PartOwned (s : State) (a : Nat) : Prop :=
  ∃ n r, s.record n = some r ∧ r.life ≠ .retired ∧
    ((∃ g, r.inRegion = some g ∧ g.first.val * 32 ≤ a ∧ a < (g.first.val + g.count) * 32 ∧ ∀ f c, r.inbound ≠ .complete f c) ∨
      (∃ g, r.outRegion = some g ∧ g.first.val * 32 ≤ a ∧ a < (g.first.val + g.count) * 32 ∧ r.outbound ≠ .empty))

end Sys2Proof.Claims

open Sys2Proof Sys2Proof.Machine Sys2Proof.Claims

/-! ## The machine as a whole -/

/-- The step runs the command at the front of the queue on the state with the queue's rest, and idles on an empty queue (the queue and
its idling are the model's choice, log entries 4 and 8). -/
def Obligations.StepTakesTheFront : Prop :=
  (∀ s c rest, s.pending = c :: rest → step s = exec c { s with pending := rest }) ∧
  (∀ s, s.pending = [] → step s = .next s)

/-- Every command has an effect or is ignored, so it answers a next state, and none touches the queue of waiting commands. -/
def Obligations.CommandsLeaveTheQueue : Prop :=
  ∀ c s, ∃ t, exec c s = .next t ∧ t.pending = s.pending

/-- The state after reset meets every law of the machine. -/
def Obligations.ResetMeetsTheLaws : Prop := State.reset.Inv

/-- Every step keeps every law of the machine. -/
def Obligations.StepKeepsTheLaws : Prop := ∀ s t, s.Inv → step s = .next t → t.Inv

/-- Every step keeps the law of the notice list: it holds exactly the stations whose notice set is not empty, each once (R155). -/
def Obligations.StepKeepsNoticeList : Prop := ∀ s t, s.noticeListLaw → step s = .next t → t.noticeListLaw

/-- Every step keeps the law that no address is matched by more than one ONLINE station (R12, R50). -/
def Obligations.StepKeepsAddresses : Prop := ∀ s t, s.addressLaw → step s = .next t → t.addressLaw

/-- Every step keeps the law that regions of ONLINE and RETIRING stations are disjoint and within pages 0 to 255 (R13). -/
def Obligations.StepKeepsRegions : Prop := ∀ s t, s.regionLaw → step s = .next t → t.regionLaw

/-- Every step keeps the law that the modes of ONLINE stations follow the two flags (R138). -/
def Obligations.StepKeepsModes : Prop := ∀ s t, s.modeLaw → step s = .next t → t.modeLaw

/-- The code of the host command that a command completes in a state, if it completes one: the row of the command, or the completion of the
command in hand. -/
def Sys2Proof.Claims.completes (s : State) : Instr → Option Byte
  | .defineStation => some 0x10
  | .retireStationGraceful => some 0x13
  | .retireStationImmediate => some 0x13
  | .takeNotice => some 0x40
  | .unknownCommand code => some code
  | .commandCompletion => match s.engine with | .busy code _ => some code | _ => none
  | _ => none

/-- A life state changes only as the table of R6 allows and at the happenings it names, at any command but a hardware reset. A record leaves FREE to
ONLINE at a DEFINE STATION that completes with OK; ONLINE at a RETIRE STATION, to RETIRING with PENDING or to RETIRED with OK; RETIRING, in a state the
laws allow, becomes RETIRED exactly when it is left without place, hold and stage obligation; and RETIRED becomes FREE at the TAKE NOTICE that takes its
set from the head of the notice list. A set holds RETIRED exactly while its record is RETIRED. -/
def Obligations.LifeStatesFollowTheTable : Prop :=
  ∀ c s t, s.retiredNoticeLaw → exec c s = .next t → (∀ p, c ≠ .hardwareReset p) →
    t.retiredNoticeLaw ∧
    ∀ n, match s.record n with
      | none => ∀ r, t.record n = some r → r.life = .online ∧ completes s c = some 0x10 ∧ t.result = .ok
      | some r =>
        match r.life with
        | .online => ∃ q, t.record n = some q ∧
            (q.life ≠ .online → completes s c = some 0x13 ∧ t.result = (if q.life = .retiring then .pending else .ok)) ∧
            (q.life = .retiring → Obliged t n)
        | .retiring => ∃ q, t.record n = some q ∧ q.life ≠ .online ∧ (s.Inv → (q.life = .retiring ↔ Obliged t n))
        | .retired => (∀ q, t.record n = some q → q.life = .retired) ∧
            (t.record n = none → completes s c = some 0x40 ∧ s.noticeList.head? = some n)

/-- The part changes no byte the host owns: only the host's own write, the happenings that take a region over and store into it, and a
power-on change a byte that is host-owned before them (R174, R177). -/
def Obligations.HostOwnedBytesKept : Prop :=
  ∀ c s t a, s.Inv → exec c s = .next t → ¬ PartOwned s a →
    (∀ v, c ≠ .dataWrite v) → (∀ v, c ≠ .registerWrite 0x6 v) → c ≠ .hardwareReset true →
    c ≠ .releaseInbound → c ≠ .unknownCommand 0x38 → (c = .commandCompletion → ∀ p, s.engine ≠ .busy 0x38 p) →
    t.readByte a = s.readByte a

/-- A frame's raw characters, laid out by section 2.3 with the check of R27, have the effect of the frame's row: the parser gives every
well-formed frame back. -/
def Obligations.RawFramesAreTheirRows : Prop :=
  ∀ c type body s, wire c = some (type, body) → c.wellFormed = true →
    exec (.frameDiscarded (.afterIdle (chars (framed type body)))) s = exec c s

/-- The polynomial of a byte over the two-element field. -/
noncomputable def Sys2Proof.Claims.bytePoly (b : Byte) : Polynomial (ZMod 2) :=
  ∑ i ∈ Finset.range 8, if b.getLsbD i then Polynomial.X ^ i else 0

/-- The polynomial of a run of bytes, the first byte and the most significant bits highest. -/
noncomputable def Sys2Proof.Claims.bytesPoly (bytes : List Byte) : Polynomial (ZMod 2) :=
  bytes.foldl (fun p b => p * Polynomial.X ^ 8 + bytePoly b) 0

/-- The check is the remainder of the division of the frame's bytes, shifted by the eight places of the check, by x^8 + x^2 + x + 1; a frame
whose check byte differs is DAMAGED (R27, R32; a raw run as the operand of FRAME_DISCARDED is the model's choice, log entry 6). On the line a REPLY is
type 0x38 with END in bit 0 and NOT_READY in bit 1 of its first body byte and its data behind it, a STATUS is type 0x48 with the request mark in bit 7 over
the status byte, and each ends with its check (section 2.3, R117, R132, R133). -/
def Obligations.CheckIsTheRemainder : Prop :=
  (∀ bytes, (Polynomial.X ^ 8 + Polynomial.X ^ 2 + Polynomial.X + 1 : Polynomial (ZMod 2)) ∣
    bytesPoly bytes * Polynomial.X ^ 8 + bytePoly (linkCheck bytes)) ∧
  (∀ s busy type body check, s.attached = true → s.reception = .receiving busy → body.length ≤ 40 → check ≠ linkCheck (type :: BitVec.ofNat 8 body.length :: body) →
    exec (.frameDiscarded (.afterIdle (chars (type :: BitVec.ofNat 8 body.length :: body ++ [check])))) s = .next (faulted s .damaged)) ∧
  (∀ e n data, (ReplyFrame.reply e n data).bytes = framed 0x38 (BitVec.ofNat 8 (e.toNat + 2 * n.toNat) :: data)) ∧
  (∀ mark b, (ReplyFrame.status mark b).bytes = framed 0x48 [BitVec.ofNat 8 (128 * mark.toNat + b.toNat)])

/-- The unit sets of R2 and the port tests of R48 and R49: which address a station of a width, a base and a port policy passes. -/
def Obligations.MatchTests : Prop :=
  (∀ (r : StationRecord) (a : Address), unitAllowed r.width r.unit.val = true →
    (r.matchesRoute a = true ↔
      a.unit.val ≠ 127 ∧
      (match r.width with
        | .exact => a.unit.val = r.unit.val
        | .pair => a.unit.val = r.unit.val ∨ a.unit.val = r.unit.val + 1
        | .quad => a.unit.val = r.unit.val ∨ a.unit.val = r.unit.val + 1 ∨ a.unit.val = r.unit.val + 2 ∨ a.unit.val = r.unit.val + 3) ∧
      (match r.policy with
        | .noPort => a.port = none
        | .fixed p => a.port = some p
        | .openPort => a.port ≠ none))) ∧
  (∀ (r : StationRecord) (a : Address),
    (r.matchesPoll a = true ↔ r.matchesRoute a = true ∧ (r.policy = .openPort → a.port = r.acceptedPort)))

/-! ## Reset and the host port -/

/-- A hardware reset leaves every block in its reset state and holds NRST low, memory being kept through NRST and undefined after power-on;
the release ends it (the model's NRST level and power-on count are its own, log entries 1 and 9). -/
def Obligations.HardwareReset : Prop :=
  (∀ s powerOn, exec (.hardwareReset powerOn) s = .next {
    stations := Vector.replicate 32 none, noticeList := [], talkSeat := none, lanes := Vector.replicate 4 none, holds := [],
    holdTag := 0, holdLimit := 20, privateCopy := none, stage := none, remoteEnable := false, lockout := false,
    forced := Vector.replicate 4 false, attached := false, reception := .awaitingGap, replyWaiting := none, replySending := none,
    engine := .idle, result := .noneYet, params := Vector.replicate 32 0, paramIndex := 0, dataPointer := 0, irqEnable := 0,
    device := ⟨false, false, false, false, false⟩, faultKind := none, deniedStation := 0, refusedAddress := 0,
    memory := if powerOn then [] else s.memory, nrstLow := true, readData := none,
    powerOns := if powerOn then s.powerOns + 1 else s.powerOns, freeCount := s.freeCount, pending := s.pending }) ∧
  (∀ s, exec .nrstRelease s = .next { s with nrstLow := false }) ∧
  (∀ s powerOn t, exec (.hardwareReset powerOn) s = .next t →
    t.linkState = 0 ∧ t.triggerState = 0 ∧ t.nirqAsserted = false ∧ t.ltxen = false ∧ ∀ k, t.ltxd k = true)

/-- The rows that are accesses of the host: its commands and its reads and writes of registers. -/
def Sys2Proof.Claims.hostRow : Instr → Bool
  | .attach | .detach | .defineStation | .adjustStation | .readStation | .retireStationGraceful | .retireStationImmediate
  | .setStatus | .requestService | .withdrawRequest | .returnToLocal | .postOutbound | .cancelOutbound | .releaseInbound
  | .takeNotice | .readHold | .answerHold | .readRoute | .setHoldLimit | .forceTrigger | .unknownCommand _
  | .paramIndexWrite _ | .paramDataWrite _ | .dataWrite _ | .irqEnableWrite _ | .deviceNoticeWrite _ | .registerWrite _ _ => true
  | _ => false

/-- While NRST is low the host port takes no access: writes are lost and a read drives nothing (R166). -/
def Obligations.NrstLowTakesNoAccess : Prop :=
  (∀ c s, s.nrstLow = true → hostRow c = true → exec c s = .next s) ∧
  (∀ c s, s.nrstLow = true → (c = .readResult ∨ c = .paramDataRead ∨ c = .dataRead) → exec c s = .next { s with readData := none })

/-- The row of the command in hand, by the command table of section 11.2 and, for RETIRE STATION, the mode in the snapshot. -/
def Sys2Proof.Claims.rowInHand (code : Byte) (p : ParamBlock) : Option Instr :=
  if code = 0x01 then some .attach
  else if code = 0x02 then some .detach
  else if code = 0x10 then some .defineStation
  else if code = 0x11 then some .adjustStation
  else if code = 0x12 then some .readStation
  else if code = 0x13 then
    if p[1] = 0 then some .retireStationGraceful else if p[1] = 1 then some .retireStationImmediate else none
  else if code = 0x20 then some .setStatus
  else if code = 0x21 then some .requestService
  else if code = 0x22 then some .withdrawRequest
  else if code = 0x28 then some .returnToLocal
  else if code = 0x30 then some .postOutbound
  else if code = 0x31 then some .cancelOutbound
  else if code = 0x38 then some .releaseInbound
  else if code = 0x40 then some .takeNotice
  else if code = 0x48 then some .readHold
  else if code = 0x49 then some .answerHold
  else if code = 0x50 then some .readRoute
  else if code = 0x58 then some .setHoldLimit
  else if code = 0x60 then some .forceTrigger
  else some (.unknownCommand code)

/-- COMMAND_COMPLETION has the effect of the row of the command in hand, and with none in hand it changes nothing (R168; log entry 5). A command that
was accepted some happenings ago completes as its row does when it is issued whole in the state those happenings left (third clause); with nothing between,
the write of COMMAND and then the row, or the completion, is the row (fourth clause). RETIRE STATION with a mode that is neither 0 nor 1 has no row: it
completes with BAD_FIELD and field 2, or field 1 for a station number above 31 (R17). -/
def Obligations.CompletionIsTheRow : Prop :=
  (∀ s code p c, s.nrstLow = false → s.engine = .busy code p → rowInHand code p = some c → exec .commandCompletion s = exec c s) ∧
  (∀ s, (∀ code p, s.engine ≠ .busy code p) → exec .commandCompletion s = .next s) ∧
  (∀ s code p c, s.hostLaw → s.nrstLow = false → s.engine = .busy code p → rowInHand code p = some c →
    exec .commandCompletion s = exec c { s with engine := .idle }) ∧
  (∀ s code c u, Ready s → rowInHand code s.params = some c → exec (.registerWrite 0x0 code) s = .next u →
    exec c u = exec c s ∧ exec .commandCompletion u = exec c s) ∧
  (∀ s p, s.engine = .busy 0x13 p → 1 < p[1].toNat →
    exec .commandCompletion s = .next (refused s .badField (if 32 ≤ p[0].toNat then 1 else 2)))

/-- A completion makes the engine DONE with a result code, writes byte 31, and leaves the index, the data pointer, the interrupt enables and
the device notice flags with their details as they were (R168, R172, R181). -/
def Obligations.CompletionEndsTheCommand : Prop :=
  ∀ s code p, s.engine = .busy code p →
    ∃ t, exec .commandCompletion s = .next t ∧ t.engine = .done ∧ t.result ≠ .noneYet ∧
      (t.result ≠ .badField → t.result ≠ .addressInUse → t.result ≠ .regionInUse → code ≠ 0x10 → t.params[31] = 0) ∧
      (t.result = .badField → 1 ≤ t.params[31].toNat ∧ t.params[31].toNat ≤ 12) ∧
      t.paramIndex = s.paramIndex ∧ t.dataPointer = s.dataPointer ∧ t.irqEnable = s.irqEnable ∧ t.device = s.device ∧
      t.faultKind = s.faultKind ∧ t.deniedStation = s.deniedStation ∧ t.refusedAddress = s.refusedAddress ∧
      t.readData = s.readData ∧ t.powerOns = s.powerOns ∧ t.nrstLow = s.nrstLow

/-- A write to COMMAND in IDLE or DONE accepts the command with a copy of the parameter block; while BUSY it, and a write to PARAM_INDEX or
PARAM_DATA, is ignored and sets COMMAND_OVERRUN (R167, R170). A code that is not in the command table
completes with UNKNOWN_COMMAND and changes no block (R167). -/
def Obligations.CommandWrites : Prop :=
  (∀ s v, Ready s → exec (.registerWrite 0x0 v) s = .next { s with engine := .busy v s.params, result := .noneYet }) ∧
  (∀ s c code p v, s.nrstLow = false → s.engine = .busy code p →
    c = .registerWrite 0x0 v ∨ c = .registerWrite 0x2 v ∨ c = .registerWrite 0x3 v ∨ c = .paramIndexWrite v ∨ c = .paramDataWrite v →
    exec c s = .next { s with device := { s.device with commandOverrun := true } }) ∧
  (∀ s code, Ready s → code ∉ commandCodes → exec (.unknownCommand code) s = .next (refused s .unknownCommand 0))

/-- A read of DATA at a host-owned byte returns the byte, and at a part-owned one 0x00 with ACCESS_REFUSED and its address; either advances the
pointer from 8191 to 0 (R173, R174, R175). -/
def Obligations.DataRead : Prop :=
  ∀ s, s.nrstLow = false →
    (¬ PartOwned s s.dataPointer.toNat → exec .dataRead s =
      .next { s with readData := some (s.readByte s.dataPointer.toNat), dataPointer := s.dataPointer + 1 }) ∧
    (PartOwned s s.dataPointer.toNat → exec .dataRead s =
      .next { s with
        readData := some 0
        dataPointer := s.dataPointer + 1
        device := { s.device with accessRefused := true }
        refusedAddress := if s.device.accessRefused then s.refusedAddress else s.dataPointer })

/-- A write of DATA at a host-owned byte stores it there and nowhere else; at a part-owned byte it is dropped with ACCESS_REFUSED and its address;
either advances the pointer (R173, R174, R175). -/
def Obligations.DataWrite : Prop :=
  ∀ s v, s.nrstLow = false →
    (¬ PartOwned s s.dataPointer.toNat → ∃ t, exec (.dataWrite v) s = .next t ∧
      (∀ a, t.readByte a = if a = s.dataPointer.toNat then v else s.readByte a) ∧
      t = { s with memory := t.memory, dataPointer := s.dataPointer + 1 }) ∧
    (PartOwned s s.dataPointer.toNat → exec (.dataWrite v) s =
      .next { s with
        dataPointer := s.dataPointer + 1
        device := { s.device with accessRefused := true }
        refusedAddress := if s.device.accessRefused then s.refusedAddress else s.dataPointer })

/-- The other accesses of the register window. Writes to the pointer registers replace their part of the pointer (R173), writes to registers marked
ignored change nothing (R166), and a read of RESULT returns its code, by the numbers of R169, and moves DONE to IDLE. A write to PARAM_INDEX sets the index from the low five
bits; a write of PARAM_DATA stores at the index and a read of it returns the byte there, in BUSY too, and either advances the index from 31 to 0 (R171).
A write to IRQ_ENABLE sets the four enables (R162), and one to DEVICE_NOTICE clears exactly the flags written as one and no detail (R161). -/
def Obligations.RegisterAccesses : Prop :=
  (∀ s v, s.nrstLow = false → exec (.registerWrite 0x4 v) s =
    .next { s with dataPointer := BitVec.ofNat 13 (s.dataPointer.toNat / 256 * 256 + v.toNat) }) ∧
  (∀ s v, s.nrstLow = false → exec (.registerWrite 0x5 v) s =
    .next { s with dataPointer := BitVec.ofNat 13 (v.toNat % 32 * 256 + s.dataPointer.toNat % 256) }) ∧
  (∀ s v reg, s.nrstLow = false → reg ∈ [(0x1 : BitVec 4), 0x8, 0x9, 0xB, 0xC, 0xD, 0xE, 0xF] →
    exec (.registerWrite reg v) s = .next s) ∧
  (∀ s, s.nrstLow = false → exec .readResult s =
    .next { s with readData := some (BitVec.ofNat 8 (resultNumber s.result)), engine := if s.engine = .done then .idle else s.engine }) ∧
  (∀ s v, Ready s → exec (.paramIndexWrite v) s = .next { s with paramIndex := Fin.ofNat 32 (v.toNat % 32) }) ∧
  (∀ s v, Ready s → exec (.paramDataWrite v) s =
    .next { s with params := s.params.set s.paramIndex.val v, paramIndex := Fin.ofNat 32 (s.paramIndex.val + 1) }) ∧
  (∀ s, s.nrstLow = false → exec .paramDataRead s =
    .next { s with readData := some s.params[s.paramIndex.val], paramIndex := Fin.ofNat 32 (s.paramIndex.val + 1) }) ∧
  (∀ s v, s.nrstLow = false → exec (.irqEnableWrite v) s = .next { s with irqEnable := BitVec.ofNat 4 (v.toNat % 16) }) ∧
  (∀ s v, s.nrstLow = false → exec (.deviceNoticeWrite v) s = .next { s with
    device := ⟨s.device.linkResetSeen && !v[0], s.device.linkFault && !v[1], s.device.laneOverflow && !v[2],
      s.device.accessRefused && !v[3], s.device.commandOverrun && !v[4]⟩ })

/-- The drives and outputs: LBUSY (R37), LREQ (R38), the trigger lines (R150) and NIRQ (R162); and what a read of each of the sixteen registers returns,
by the layouts of section 11.1 (R165, R169, R171, R173, R174, R178). That line 0 is the lowest bit of each group of TRIGGER_STATE is the model's choice (log
entry 16). -/
def Obligations.OutputsFollowTheState : Prop :=
  (∀ s : State, s.lbusy = true ↔ s.attached = true ∧ (s.holds ≠ [] ∨ s.stage ≠ none)) ∧
  (∀ s : State, s.lreq = true ↔ s.attached = true ∧ ∃ n r, Online s n r ∧ r.request = .asking) ∧
  (∀ (s : State) (l : LineNo), s.triggerLevel l = true ↔ s.forced.get l = true ∨
    ∃ n r, s.record n = some r ∧ r.life ≠ .retired ∧ r.triggerLine = some l ∧ r.notices.triggered = true) ∧
  (∀ s : State, s.nirqAsserted = true ↔ (s.irqEnable[0] = true ∧ s.noticeList ≠ []) ∨ (s.irqEnable[1] = true ∧ s.holds ≠ []) ∨
    (s.irqEnable[2] = true ∧ s.engine = .done) ∨ (s.irqEnable[3] = true ∧ s.device ≠ ⟨false, false, false, false, false⟩)) ∧
  (∀ s : State, (s.registerValue 0x0).toNat = (match s.engine with | .idle => 0 | .busy _ _ => 1 | .done => 2)) ∧
  (∀ s : State, (s.registerValue 0x1).toNat = resultNumber s.result) ∧
  (∀ s : State, (s.registerValue 0x2).toNat = s.paramIndex.val) ∧
  (∀ s : State, s.registerValue 0x3 = s.params[s.paramIndex.val]) ∧
  (∀ s : State, (s.registerValue 0x4).toNat = s.dataPointer.toNat % 256 ∧ (s.registerValue 0x5).toNat = s.dataPointer.toNat / 256) ∧
  (∀ s : State, (PartOwned s s.dataPointer.toNat → s.registerValue 0x6 = 0) ∧
    (¬ PartOwned s s.dataPointer.toNat → s.registerValue 0x6 = s.readByte s.dataPointer.toNat)) ∧
  (∀ s : State, (s.registerValue 0x7).toNat = s.irqEnable.toNat) ∧
  (∀ s : State, (s.registerValue 0xA).toNat = deviceNumber s.device) ∧
  (∀ s : State, (s.registerValue 0xB).toNat = faultNumber s.faultKind) ∧
  (∀ s : State, (s.registerValue 0xC).toNat = s.deniedStation.val) ∧
  (∀ s : State, (s.registerValue 0xD).toNat = s.refusedAddress.toNat % 256 ∧ (s.registerValue 0xE).toNat = s.refusedAddress.toNat / 256) ∧
  (∀ s : State, (s.registerValue 0x8).toNat = (if s.noticeList = [] then 0 else 1) + (if s.holds = [] then 0 else 2) +
    (if s.engine = .done then 4 else 0) + (if s.device = ⟨false, false, false, false, false⟩ then 0 else 8)) ∧
  (∀ s : State, (s.registerValue 0x9).toNat = s.attached.toNat + 2 * s.remoteEnable.toNat + 4 * s.lockout.toNat + 8 * s.lbusy.toNat +
    16 * s.lreq.toNat + 32 * s.stage.isSome.toNat + 64 * min 3 s.holds.length) ∧
  (∀ s : State, (s.registerValue 0xF).toNat = (s.triggerLevel 0).toNat + 2 * (s.triggerLevel 1).toNat + 4 * (s.triggerLevel 2).toNat +
    8 * (s.triggerLevel 3).toNat + 16 * (s.forced.get 0).toNat + 32 * (s.forced.get 1).toNat + 64 * (s.forced.get 2).toNat +
    128 * (s.forced.get 3).toNat)

/-! ## ROUTE -/

/-- The ONLINE station that a ROUTE address matches, if one does: at most one does (R50). -/
def Sys2Proof.Claims.hit (s : State) (a : Address) : Option StationNo :=
  (List.finRange 32).find? (fun n => match s.record n with
    | none => false
    | some r => decide (r.life = .online) && r.matchesRoute a)

/-- A property of the record of a station that is not FREE. -/
def Sys2Proof.Claims.having (s : State) (p : StationRecord → Bool) (n : StationNo) : Bool :=
  match s.record n with
  | none => false
  | some r => p r

/-- The station that takes the talk seat: the one the talker address matches, if it may talk (R63). -/
def Sys2Proof.Claims.talkerOf (s : State) (ta : Address) : Option StationNo :=
  (if ta.unit.val = 127 then none else hit s ta).filter (having s (fun r => r.mayTalk))

/-- The stations with a claim to a lane, in list order and each once: those the listener entries match that may listen, the talker apart (R64). -/
def Sys2Proof.Claims.claimants (s : State) (ta : Address) (las : List Address) : List StationNo :=
  ((las.filterMap (hit s)).filter (fun n => having s (fun r => r.mayListen) n && decide (talkerOf s ta ≠ some n))).eraseDups

/-- Whether the station's port policy is OPEN. -/
def Sys2Proof.Claims.isOpen (s : State) (n : StationNo) : Bool := having s (fun r => decide (r.policy = .openPort)) n

/-- A PORT hold's detail: the address that matched, unit and port (R55). -/
def Sys2Proof.Claims.portHold (a : Address) : HoldKind := .port a.unit (a.port.getD 0)

/-- The PORT holds of a route: the talker's, with the talker address, then those of the lanes in lane order, each with the first entry that
matched it (R67). -/
def Sys2Proof.Claims.portHolds (s : State) (ta : Address) (las : List Address) : List (StationNo × HoldKind) :=
  ((talkerOf s ta).toList.filter (isOpen s)).map (fun n => (n, portHold ta)) ++
    (((claimants s ta las).take 4).filter (isOpen s)).filterMap (fun n =>
      (las.find? (fun a => decide (hit s a = some n))).map (fun a => (n, portHold a)))

/-- A ROUTE frame seats its talker and the first four claimants in lanes 0 to 3, tentatively where the port policy is OPEN, raises one PORT
hold for each tentative place, and captures the first station denied for want of a lane (R61 to R65, R67). -/
def Obligations.RouteSeats : Prop :=
  ∀ s talker listeners ta las, s.Inv → InFrame s → routeFrame talker listeners = some (.route ta las) →
    ∃ t, exec (.route talker listeners) s = .next t ∧
      t.talkSeat = (talkerOf s ta).map (fun n => ⟨n, isOpen s n⟩) ∧
      (∀ i : LaneNo, t.lane i = ((claimants s ta las)[i.val]?).map (fun n => ⟨n, isOpen s n⟩)) ∧
      t.holds = raised s (portHolds s ta las) ∧
      t.holdTag = s.holdTag + BitVec.ofNat 8 (portHolds s ta las).length ∧
      t.device = { s.device with laneOverflow := s.device.laneOverflow || decide (4 < (claimants s ta las).length) } ∧
      t.deniedStation =
        (if s.device.laneOverflow then s.deniedStation else ((claimants s ta las)[4]?).getD s.deniedStation) ∧
      t = { s with
        stations := t.stations, noticeList := t.noticeList, talkSeat := t.talkSeat, lanes := t.lanes, holds := t.holds
        holdTag := t.holdTag, device := t.device, deniedStation := t.deniedStation, reception := .ready }

/-- Whether a ROUTE denies the ONLINE station a seat: the talk seat for want of may-talk, or a lane for want of may-listen or of an empty
lane (R63, R64, R65). -/
def Sys2Proof.Claims.denied (s : State) (ta : Address) (las : List Address) (n : StationNo) : Bool :=
  (decide (ta.unit.val ≠ 127) && decide (hit s ta = some n) && !having s (fun r => r.mayTalk) n) ||
    (las.any (fun a => decide (hit s a = some n)) && decide (talkerOf s ta ≠ some n) &&
      !decide (n ∈ (claimants s ta las).take 4))

/-- Whether the station has a place in the route. -/
def Sys2Proof.Claims.placed (s : State) (n : StationNo) : Bool :=
  [none, some 0, some 1, some 2, some 3].any (fun i => match s.place i with | none => false | some p => decide (p.station = n))

/-- The record of a station after a ROUTE frame: every accepted port gone, a RETIRING occupant RETIRED, and an ONLINE station with the last
address that matched it, SEAT_DENIED if it was denied, and the remote transition if it was seated in a lane. -/
def Sys2Proof.Claims.routed (s : State) (ta : Address) (las : List Address) (n : StationNo) (r : StationRecord) : StationRecord :=
  let base := if r.policy = .openPort ∧ r.life ≠ .retired then { r with acceptedPort := none } else r
  if r.life = .retiring ∧ placed s n = true then retired base
  else if r.life ≠ .online then base
  else
    let presented := (if ta.unit.val = 127 then [] else [ta]) ++ las
    let matched := match (presented.filter r.matchesRoute).getLast? with
      | none => base
      | some a => { base with lastMatched := some a }
    let marked := if denied s ta las n then { matched with notices := { matched.notices with seatDenied := true } } else matched
    if n ∈ (claimants s ta las).take 4 ∧ isOpen s n = false then transition s marked else marked

/-- The stations that a ROUTE gives a notice, in its order (R156): SEAT_DENIED in address order, MODE_CHANGED in lane order, RETIRED in ascending
station number. -/
def Sys2Proof.Claims.routeNotified (s : State) (ta : Address) (las : List Address) : List StationNo :=
  ((if ta.unit.val = 127 then none else hit s ta).toList.filter (having s (fun r => !r.mayTalk))) ++
    (las.filterMap (hit s)).filter (fun n => decide (talkerOf s ta ≠ some n) && !decide (n ∈ (claimants s ta las).take 4)) ++
    ((claimants s ta las).take 4).filter (fun n => !isOpen s n && s.remoteEnable &&
      having s (fun r => decide (r.mode = .unlockedLocal ∨ r.mode = .lockedLocal)) n) ++
    (List.finRange 32).filter (fun n => placed s n && having s (fun r => decide (r.life = .retiring)) n)

/-- What a ROUTE frame does to every record (R53, R56, R61 to R66, R21), and the order in which the stations whose sets were empty join the notice list
(R155, R156). -/
def Obligations.RouteRecords : Prop :=
  ∀ s talker listeners ta las, s.Inv → InFrame s → routeFrame talker listeners = some (.route ta las) →
    ∃ t, exec (.route talker listeners) s = .next t ∧ (∀ n, t.record n = (s.record n).map (routed s ta las n)) ∧
      t.noticeList = s.noticeList ++ (quietOnes s (routeNotified s ta las)).eraseDups

/-! ## DATA -/

/-- The station takes the frame: its inbound is EMPTY or FILLING and the body fits the region (R97). -/
def Sys2Proof.Claims.takes (s : State) (body : List Byte) (n : StationNo) : Bool :=
  having s (fun r => match r.inbound with
    | .complete _ _ => false
    | i => decide (i.fill + body.length ≤ regionCapacity r.inRegion)) n

/-- The inbound of a station that takes the frame (R98), or of one that cannot (R99). -/
def Sys2Proof.Claims.inboundOffered (r : StationRecord) (body : List Byte) (endMark : Bool) : Inbound :=
  match r.inbound with
  | .complete f c => .complete f c
  | i =>
    let n := i.fill + body.length
    if regionCapacity r.inRegion < n then .complete i.fill true
    else if endMark then .complete n false
    else if n = regionCapacity r.inRegion then .complete n true
    else .filling n

/-- Whether the frame closes the station's region, so that INBOUND_COMPLETE is added. -/
def Sys2Proof.Claims.closes (s : State) (body : List Byte) (endMark : Bool) (n : StationNo) : Bool :=
  having s (fun r => !r.inbound.isComplete && (inboundOffered r body endMark).isComplete) n

/-- The stations that get an END hold from the frame, in lane order (R98, R100). -/
def Sys2Proof.Claims.endHolders (s : State) (body : List Byte) (endMark : Bool) : List StationNo :=
  s.listeners.filter (fun n => takes s body n && endMark && having s (fun r => r.options.onEnd) n)

/-- The stations the frame is owed to, in ascending number (R99, R102). -/
def Sys2Proof.Claims.owedBy (s : State) (body : List Byte) : List StationNo :=
  (List.finRange 32).filter (fun n => decide (n ∈ s.listeners) && !takes s body n)

/-- A DATA frame is offered to each seated listener: stored where it fits, closing the region by R98, owed where it does not, with the END
holds in lane order and the stage for those owed; no other record and no other byte of memory changes (R97 to R100, R102, R104). -/
def Obligations.DataTaken : Prop :=
  ∀ s endMark body, s.Inv → InFrame s → (dataFrame endMark body).isSome = true →
    ∃ t, exec (.data endMark body) s = .next t ∧
      (∀ n, t.record n = (s.record n).map (fun r =>
        if n ∈ s.listeners then
          { r with
            inbound := inboundOffered r body endMark
            notices := if closes s body endMark n then { r.notices with inboundComplete := true } else r.notices }
        else r)) ∧
      (∀ n r i, n ∈ s.listeners → takes s body n = true → s.record n = some r → (h : i < body.length) →
        t.readByte (regionBase r.inRegion + r.inbound.fill + i) = body[i]) ∧
      (∀ a, (∀ n r, n ∈ s.listeners → takes s body n = true → s.record n = some r →
          ¬ (regionBase r.inRegion + r.inbound.fill ≤ a ∧ a < regionBase r.inRegion + r.inbound.fill + body.length)) →
        t.readByte a = s.readByte a) ∧
      t.noticeList = s.noticeList ++ quietOnes s (s.listeners.filter (closes s body endMark)) ∧
      t.holds = raised s ((endHolders s body endMark).map (fun n => (n, .endOfMessage))) ∧
      t.holdTag = s.holdTag + BitVec.ofNat 8 (endHolders s body endMark).length ∧
      t.stage = (if owedBy s body = [] then none else some ⟨body, endMark, owedBy s body, timer s⟩) ∧
      t = { s with
        stations := t.stations, noticeList := t.noticeList, holds := t.holds, holdTag := t.holdTag, stage := t.stage
        memory := t.memory, reception := .ready }

/-! ## FETCH and POLL -/

/-- A talker whose outbound is EMPTY answers with a REPLY without data and with NOT_READY; nothing else changes (R118). -/
def Obligations.FetchNotReady : Prop :=
  ∀ s n r, InFrame s → s.talkSeat = some ⟨n, false⟩ → s.record n = some r → r.outbound = .empty →
    exec .fetch s = .next { ended s with replyWaiting := some (.reply false true []) }

/-- A talker that is POSTED or SENDING answers with the next chunk of at most 32 bytes (R119); one that is CLOSING answers with END and no data
(R120); with no station seated the FETCH has no effect (R117). -/
def Obligations.FetchSends : Prop :=
  (∀ s n r g len e c, InFrame s → s.talkSeat = some ⟨n, false⟩ → s.record n = some r → r.outRegion = some g → c ≤ len →
    ((r.outbound = .posted len e ∧ c = 0) ∨ r.outbound = .sending len e c) →
    exec .fetch s = .next
      (let k := min 32 (len - c)
       let bytes := (List.range k).map (fun i => s.readByte (g.first.val * 32 + c + i))
       if c + k = len then
         { ended s with
           stations := s.stations.set n (some { r with outbound := .empty, notices := { r.notices with outboundDone := true } })
           noticeList := joins s n r
           replyWaiting := some (.reply e false bytes) }
       else
         { ended s with
           stations := s.stations.set n (some { r with outbound := .sending len e (c + k) })
           replyWaiting := some (.reply false false bytes) })) ∧
  (∀ s n r len e c, InFrame s → s.talkSeat = some ⟨n, false⟩ → s.record n = some r → r.outbound = .closing len e c →
    exec .fetch s = .next { ended s with
      stations := s.stations.set n (some { r with outbound := .empty, notices := { r.notices with outboundDone := true } })
      noticeList := joins s n r
      replyWaiting := some (.reply true false []) }) ∧
  (∀ s, InFrame s → s.talkSeat = none → exec .fetch s = .next (ended s))

/-- A POLL makes the one station it matches answer with its status byte and its request mark, writes the last matched address, and makes an
ASKING station ANSWERED with POLLED; a POLL that matches no station has no effect (R132, R53). -/
def Obligations.PollAnswers : Prop :=
  (∀ s ab a n r, InFrame s → s.addressLaw → decodeAddress ab = some a → Online s n r → r.matchesPoll a = true →
    exec (.poll ab) s = .next
      (if r.request = .asking then
        { ended s with
          stations := s.stations.set n (some { r with
            lastMatched := some a, request := .answered, notices := { r.notices with polled := true } })
          noticeList := joins s n r
          replyWaiting := some (.status true r.status) }
      else
        { ended s with
          stations := s.stations.set n (some { r with lastMatched := some a })
          replyWaiting := some (.status false r.status) })) ∧
  (∀ s ab a, InFrame s → decodeAddress ab = some a → (∀ n r, Online s n r → r.matchesPoll a = false) →
    exec (.poll ab) s = .next (ended s))

/-! ## Group frames -/

/-- The targets of a CLEAR frame, in the order they are settled (R145). -/
def Sys2Proof.Claims.targets (s : State) : ClearScope → List StationNo
  | .all => (List.finRange 32).filter s.isOnline
  | .listeners => s.onlineListeners

/-- A CLEAR frame raises a CLEAR hold for each target with hold-on-clear and clears every other target at once, in the order of the targets; no
other record changes (R145, R146). -/
def Obligations.ClearTaken : Prop :=
  ∀ s scope, s.routeLaw → InFrame s →
    let held := (targets s scope).filter (having s (fun r => r.options.onClear))
    let now := (targets s scope).filter (having s (fun r => !r.options.onClear))
    ∃ t, exec (.clear scope) s = .next t ∧
      (∀ n, t.record n = (s.record n).map (fun r => if n ∈ now then cleared r else r)) ∧
      t.noticeList = s.noticeList ++ quietOnes s now ∧
      t.holds = s.holds ++ raised s (held.map (fun n => (n, .clear scope))) ∧
      t = { ended s with
        stations := t.stations, noticeList := t.noticeList, holds := t.holds
        holdTag := s.holdTag + BitVec.ofNat 8 held.length }

/-- A TRIGGER frame raises a TRIGGER hold for each ONLINE seated listener with hold-on-trigger and gives every other one TRIGGERED, in lane order;
no other record changes (R148). -/
def Obligations.TriggerTaken : Prop :=
  ∀ s, s.routeLaw → InFrame s →
    let held := s.onlineListeners.filter (having s (fun r => r.options.onTrigger))
    let now := s.onlineListeners.filter (having s (fun r => !r.options.onTrigger))
    ∃ t, exec .trigger s = .next t ∧
      (∀ n, t.record n = (s.record n).map (fun r =>
        if n ∈ now then { r with notices := { r.notices with triggered := true } } else r)) ∧
      t.noticeList = s.noticeList ++ quietOnes s now ∧
      t.holds = s.holds ++ raised s (held.map (fun n => (n, .trigger))) ∧
      t = { ended s with
        stations := t.stations, noticeList := t.noticeList, holds := t.holds
        holdTag := s.holdTag + BitVec.ofNat 8 held.length }

/-- A PRIVATE frame that reaches a seated ONLINE listener with pass-private keeps a copy and raises a PRIVATE hold for each such listener in lane
order; otherwise it has no effect, and a copy already kept stays (R81). -/
def Obligations.PrivateTaken : Prop :=
  ∀ s code body, InFrame s → body.length ≤ 12 →
    exec (.privateFrame code body) s = .next
      (let reached := s.onlineListeners.filter (having s (fun r => r.options.passPrivate))
       if reached = [] then ended s
       else { ended s with
         privateCopy := some ⟨code, body⟩
         holds := s.holds ++ raised s (reached.map (fun n => (n, .privateFrame)))
         holdTag := s.holdTag + BitVec.ofNat 8 reached.length })

/-- A frame that moves the modes of these stations, with MODE_CHANGED, and changes no other record and no field but the flags given. -/
def Sys2Proof.Claims.Moves (c : Instr) (s : State) (ns : List StationNo) (f : ControlMode → ControlMode) (enable lock : Bool) : Prop :=
  ∃ t, exec c s = .next t ∧
    (∀ n, t.record n = (s.record n).map (fun r => if n ∈ ns then moved (f r.mode) r else r)) ∧
    t.noticeList = s.noticeList ++ quietOnes s ns ∧
    t = { ended s with stations := t.stations, noticeList := t.noticeList, remoteEnable := enable, lockout := lock }

/-- The mode frames: REMOTE ON sets the remote-enable flag; REMOTE OFF clears both flags and makes every ONLINE station LOCAL; LOCKOUT locks every
ONLINE station while remote is enabled and has no effect otherwise; LOCAL returns the ONLINE seated listeners (R139, R140, R141). -/
def Obligations.ModeFrames : Prop :=
  (∀ s, InFrame s → exec (.remote true) s = .next { ended s with remoteEnable := true }) ∧
  (∀ s, InFrame s → Moves (.remote false) s
    ((List.finRange 32).filter (having s (fun r => decide (r.life = .online ∧ r.mode ≠ .unlockedLocal))))
    (fun _ => .unlockedLocal) false false) ∧
  (∀ s, InFrame s → s.remoteEnable = false → exec .lockout s = .next (ended s)) ∧
  (∀ s, InFrame s → s.remoteEnable = true → Moves .lockout s
    ((List.finRange 32).filter (having s (fun r => decide (r.life = .online ∧ (r.mode = .unlockedLocal ∨ r.mode = .unlockedRemote)))))
    (fun m => if m = .unlockedLocal then .lockedLocal else .lockedRemote) true true) ∧
  (∀ s, InFrame s → s.routeLaw → Moves .localFrame s
    (s.onlineListeners.filter (having s (fun r => decide (r.mode = .unlockedRemote ∨ r.mode = .lockedRemote))))
    (fun m => if m = .unlockedRemote then .unlockedLocal else .lockedLocal) s.remoteEnable s.lockout)

/-! ## RESET LINK, DETACH and ATTACH -/

/-- The record of a station after its transfers are reset, with the notices of R43, and RETIRED if it was RETIRING. -/
def Sys2Proof.Claims.reset (s : State) (n : StationNo) (r : StationRecord) : StationRecord :=
  if r.life = .retired then r
  else
    let q : StationRecord :=
      { r with
        acceptedPort := if r.policy = .openPort then none else r.acceptedPort
        inbound := match r.inbound with | .filling _ => .empty | i => i
        outbound := match r.outbound with | .sending len e _ => .posted len e | .closing _ _ _ => .empty | o => o
        notices := { r.notices with
          holdWithdrawn := r.notices.holdWithdrawn || s.holds.any (fun h => decide (h.station = n))
          dataLost := r.notices.dataLost || (match s.stage with | none => false | some g => decide (n ∈ g.owed))
          outboundDone := r.notices.outboundDone || (match r.outbound with | .closing _ _ _ => true | _ => false) } }
    if r.life = .retiring then retired q else q

/-- The stations that the reset gives a notice other than RETIRED, in ascending number (R43). -/
def Sys2Proof.Claims.resetNotified (s : State) : List StationNo :=
  (List.finRange 32).filter (having s (fun _ => true)) |>.filter (fun n =>
    s.holds.any (fun h => decide (h.station = n)) || (match s.stage with | none => false | some g => decide (n ∈ g.owed)) ||
      having s (fun r => match r.outbound with | .closing _ _ _ => true | _ => false) n)

/-- The stations whose retirement the reset completes, in ascending number (R21). -/
def Sys2Proof.Claims.resetRetired (s : State) : List StationNo :=
  (List.finRange 32).filter (having s (fun r => decide (r.life = .retiring)))

/-- The notice list after the reset: first those notified, then those retired, each only if its set was empty and it has not joined (R43). -/
def Sys2Proof.Claims.resetList (s : State) : List StationNo :=
  s.noticeList ++ (quietOnes s (resetNotified s ++ resetRetired s)).eraseDups

/-- A RESET LINK frame resets the route, the holds, the stage and every station's transfers, retires every RETIRING station and sets
LINK_RESET_SEEN; control modes, flags, request states and the hold limit and tag counter stay (R43, R44). -/
def Obligations.ResetLinkTaken : Prop :=
  ∀ s busy, s.Inv → s.attached = true → s.reception = .receiving busy →
    ∃ t, exec .resetLink s = .next t ∧
      (∀ n, t.record n = (s.record n).map (reset s n)) ∧ t.noticeList = resetList s ∧
      t = { ended s with
        stations := t.stations, noticeList := t.noticeList, talkSeat := none, lanes := Vector.replicate 4 none, holds := []
        privateCopy := none, stage := none, device := { s.device with linkResetSeen := true } }

/-- DETACH on an ATTACHED part resets the route, the holds, the stage and the transfers, clears the mode flags, makes ONLINE stations LOCAL
without notice, retires every RETIRING station, and abandons replies and the frame in reception; on a DETACHED one it answers ALREADY (R42, R43). -/
def Obligations.DetachDone : Prop :=
  (∀ s, s.Inv → Ready s → s.attached = true →
    ∃ t, exec .detach s = .next t ∧
      (∀ n, t.record n = (s.record n).map (fun r =>
        let q := reset s n r
        if q.life = .online then { q with mode := .unlockedLocal } else q)) ∧
      t.noticeList = resetList s ∧
      t = { okay s s with
        stations := t.stations, noticeList := t.noticeList, talkSeat := none, lanes := Vector.replicate 4 none, holds := []
        privateCopy := none, stage := none, attached := false, reception := .awaitingGap, replyWaiting := none
        replySending := none, remoteEnable := false, lockout := false }) ∧
  (∀ s, Ready s → s.attached = false → exec .detach s = .next (refused s .already 0))

/-- ATTACH on a DETACHED part makes it ATTACHED and waits for an idle gap; on an ATTACHED one it answers ALREADY and changes nothing (R41). -/
def Obligations.AttachDone : Prop :=
  (∀ s, Ready s → s.attached = false → exec .attach s = .next (okay s { s with attached := true, reception := .awaitingGap })) ∧
  (∀ s, Ready s → s.attached = true → exec .attach s = .next (refused s .already 0))

/-! ## Reception and replies -/

/-- The type is in the table of frame kinds (R29). -/
def Sys2Proof.Claims.KindKnown (type : Byte) : Prop :=
  type ∈ [(0x10 : Byte), 0x20, 0x21, 0x30, 0x38, 0x40, 0x48, 0x60, 0x68, 0x70, 0x74, 0x78, 0x7F] ∨
    (0x80 ≤ type.toNat ∧ type.toNat ≤ 0xBF)

/-- The frames discarded at reception with their fault kinds: a run too short, a length above 40, a character with a low stop bit, a run behind a
check byte, an unknown type, a body that does not suit its kind (R26, R29, R30, R32). Characters behind a check byte without an idle gap leave the frame
judged and taken as usual, and are one damaged frame of their own, whose start bit abandons a waiting reply (R26, R36). -/
def Obligations.FrameFaults : Prop :=
  (∀ s busy cs, s.attached = true → s.reception = .receiving busy →
    (cs.length < 3 ∨ (∃ t l rest, cs = t :: l :: rest ∧ (40 < l.byte.toNat ∨ rest.length ≤ l.byte.toNat)) ∨
      (∃ t l rest, cs = t :: l :: rest ∧ ∃ x ∈ t :: l :: rest.take (l.byte.toNat + 1), x.stopHigh = false)) →
    exec (.frameDiscarded (.afterIdle cs)) s = .next (faulted s .damaged)) ∧
  (∀ s busy cs, s.attached = true → s.reception = .receiving busy →
    exec (.frameDiscarded (.afterCheck cs)) s = .next (faulted s .damaged)) ∧
  (∀ s busy type body, s.attached = true → s.reception = .receiving busy → body.length ≤ 40 → ¬ KindKnown type →
    exec (.frameDiscarded (.afterIdle (chars (framed type body)))) s = .next (faulted s .unknownType)) ∧
  (∀ s busy type body, s.attached = true → s.reception = .receiving busy → body.length ≤ 40 → KindKnown type →
    type ≠ 0x38 → type ≠ 0x48 → (∀ c, c.wellFormed = true → wire c ≠ some (type, body)) →
    exec (.frameDiscarded (.afterIdle (chars (framed type body)))) s = .next (faulted s .damaged)) ∧
  (∀ s type body check more u, s.attached = true → s.reception ≠ .awaitingGap → body.length ≤ 40 → more ≠ [] →
    exec (.frameDiscarded (.afterIdle (chars (type :: BitVec.ofNat 8 body.length :: body ++ [check])))) s = .next u →
    exec (.frameDiscarded (.afterIdle (chars (type :: BitVec.ofNat 8 body.length :: body ++ [check]) ++ more))) s =
      .next (faulted { u with replyWaiting := none } .damaged))

/-- Frames that are not taken. A frame of type REPLY or STATUS that passes its check is ignored, whether or not it began during the LBUSY drive (R31). A
controller frame other than RESET LINK that began while the part was driving LBUSY is discarded as a busy violation (R33). While DETACHED no frame is
taken, judged or begun (R40). -/
def Obligations.FramesNotTaken : Prop :=
  (∀ s isStatus body busy, s.attached = true → s.reception = .receiving busy → body.length ≤ 40 →
    exec (.responderFrame isStatus body) s = .next (ended s)) ∧
  (∀ c s, controllerFrame c = true → s.attached = true → s.reception = .receiving true →
    exec c s = .next (faulted s .busyViolation)) ∧
  (∀ c s, s.attached = false → (runEnd c = true ∨ c = .frameStart ∨ c = .idleGap) → exec c s = .next s)

/-- A start bit begins a frame with the mark of the LBUSY drive and abandons a reply not begun; an idle gap after ATTACH readies reception; either
ends a frame in reception as DAMAGED; and the row of a frame that had no start bit yet brings it (R26, R33, R36, R41; log entry 6). The reply in waiting
begins to be sent with LTXEN asserted, and its end deasserts LTXEN (R35). LTXD carries its characters with no gap, each a low start bit, eight data bits least
significant first and a high stop bit, and rests high otherwise (R25). -/
def Obligations.LineEvents : Prop :=
  (∀ s, s.attached = true → s.reception = .ready →
    exec .frameStart s = .next { s with replyWaiting := none, reception := .receiving s.lbusy }) ∧
  (∀ s busy, s.attached = true → s.reception = .receiving busy →
    exec .frameStart s = .next { faulted s .damaged with replyWaiting := none, reception := .receiving s.lbusy }) ∧
  (∀ s, s.attached = true → s.reception = .awaitingGap → exec .idleGap s = .next { s with reception := .ready }) ∧
  (∀ s, s.attached = true → s.reception = .ready → exec .idleGap s = .next s) ∧
  (∀ s busy, s.attached = true → s.reception = .receiving busy → exec .idleGap s = .next (faulted s .damaged)) ∧
  (∀ c s, s.attached = true → s.reception = .awaitingGap → (runEnd c = true ∨ c = .frameStart) → exec c s = .next s) ∧
  (∀ c s u, s.attached = true → s.reception = .ready → runEnd c = true → exec .frameStart s = .next u → exec c s = exec c u) ∧
  (∀ s f, s.replyWaiting = some f → s.replySending = none →
    exec .sendReply s = .next { s with replyWaiting := none, replySending := some f }) ∧
  (∀ s, s.replyWaiting = none → exec .sendReply s = .next s) ∧
  (∀ s, exec .replySent s = .next { s with replySending := none }) ∧
  (∀ s : State, s.ltxen = true ↔ s.replySending ≠ none) ∧
  (∀ (s : State) k, s.ltxen = false → s.ltxd k = true) ∧
  (∀ (s : State) (f : ReplyFrame), s.replySending = some f →
    (∀ i, (h : i < f.bytes.length) → s.ltxd (10 * i) = false ∧ (∀ j, j < 8 → s.ltxd (10 * i + 1 + j) = f.bytes[i].getLsbD j) ∧
      s.ltxd (10 * i + 9) = true) ∧
    ∀ k, 10 * f.bytes.length ≤ k → s.ltxd k = true)

/-! ## Timers -/

/-- The timer runs out at the next millisecond step: one millisecond is left (R80). -/
def Sys2Proof.Claims.due (t : Option Nat) : Bool := decide (t = some 1)

/-- The record of a station after its hold of a kind has run out, with HOLD_EXPIRED and the default verdict (R89). -/
def Sys2Proof.Claims.expired (k : HoldKind) (r : StationRecord) : StationRecord :=
  let q := { r with notices := { r.notices with holdExpired := true } }
  match k with
  | .clear _ => cleared q
  | .trigger => { q with notices := { q.notices with triggered := true } }
  | _ => q

/-- Whether the station is seated, not tentatively. -/
def Sys2Proof.Claims.seatedAt (s : State) (n : StationNo) : Bool :=
  [none, some 0, some 1, some 2, some 3].any (fun i => decide (s.place i = some ⟨n, false⟩))

/-- Whether the station is owed the staged frame. -/
def Sys2Proof.Claims.owedAt (s : State) (n : StationNo) : Bool :=
  match s.stage with
  | none => false
  | some g => decide (n ∈ g.owed)

/-- The holds with one millisecond left run out in hold-list order: each leaves the list with HOLD_EXPIRED and its default verdict, a PORT
hold's place is freed, and a RETIRING station left without obligation becomes RETIRED; with none due nothing changes (R80, R88, R89). -/
def Obligations.HoldExpiry : Prop :=
  ∀ s, s.Inv →
    let out := s.holds.filter (fun h => due h.remaining)
    let left := s.holds.filter (fun h => !due h.remaining)
    ∃ t, exec .holdExpiry s = .next t ∧
      (∀ n, t.record n = (s.record n).map (fun r =>
        match out.find? (fun h => decide (h.station = n)) with
        | none => r
        | some h =>
          if r.life = .retiring ∧ seatedAt s n = false ∧ owedAt s n = false then retired (expired h.kind r)
          else expired h.kind r)) ∧
      (∀ i, t.place i = match s.place i with
        | none => none
        | some p => if p.tentative && out.any (fun h => decide (h.station = p.station)) then none else some p) ∧
      t.noticeList = s.noticeList ++ quietOnes s (out.map (fun h => h.station)) ∧
      t = { s with
        stations := t.stations, noticeList := t.noticeList, talkSeat := t.talkSeat, lanes := t.lanes, holds := left
        privateCopy := copyKept s left }

/-- A stage with one millisecond left runs out: DATA_LOST to each station owed in ascending number and the stage emptied, every station owed
keeping its lane (R103) and so its life state; with no stage due nothing changes (R107). -/
def Obligations.StageExpiry : Prop :=
  (∀ s g, s.Inv → s.stage = some g → g.remaining = some 1 →
    ∃ t, exec .stageExpiry s = .next t ∧
      (∀ n, t.record n = (s.record n).map (fun r =>
        if n ∈ g.owed then { r with notices := { r.notices with dataLost := true } } else r)) ∧
      t.noticeList = s.noticeList ++ quietOnes s g.owed ∧
      t = { s with stations := t.stations, noticeList := t.noticeList, stage := none }) ∧
  (∀ s : State, (∀ g t, s.stage = some g → g.remaining = some t → 1 < t) → exec .stageExpiry s = .next s)

/-- A millisecond step takes the holds that run out, then the stage if it runs out, and lowers every other timer by one (R80, R104; the order
is the model's choice, log entry 7). -/
def Obligations.MillisecondStep : Prop :=
  ∀ s, ∃ u v, exec .holdExpiry s = .next u ∧ exec .stageExpiry u = .next v ∧
    exec .millisecondStep s = .next { v with
      holds := v.holds.map (fun h => { h with remaining := h.remaining.map (fun t => t - 1) })
      stage := v.stage.map (fun g => { g with remaining := g.remaining.map (fun t => t - 1) }) }

/-! ## Defining, adjusting, reading and retiring stations -/

/-- Whether a field of DEFINE STATION passes, by the table of R10 and the layout of section 11.3. -/
def Sys2Proof.Claims.fieldPasses (p : ParamBlock) : Nat → Prop
  | 1 => p[0].toNat < 32 ∨ p[0].toNat = 255
  | 2 => p[1].toNat < 3
  | 3 =>
    if p[1].toNat = 0 then 1 ≤ p[2].toNat ∧ p[2].toNat ≤ 126
    else if p[1].toNat = 1 then 2 ≤ p[2].toNat ∧ p[2].toNat ≤ 126 ∧ p[2].toNat % 2 = 0
    else 4 ≤ p[2].toNat ∧ p[2].toNat ≤ 124 ∧ p[2].toNat % 4 = 0
  | 4 => p[3].toNat < 3
  | 5 => p[3].toNat = 1 → p[4].toNat < 16
  | 6 => 1 ≤ p[5].toNat ∧ p[5].toNat ≤ 3
  | 8 => p[5].toNat / 2 = 1 → 1 ≤ p[7].toNat ∧ p[7].toNat ≤ 64 ∧ p[6].toNat + p[7].toNat ≤ 256
  | 10 => p[5].toNat % 2 = 1 → 1 ≤ p[9].toNat ∧ p[9].toNat ≤ 64 ∧ p[8].toNat + p[9].toNat ≤ 256
  | 12 => p[11].toNat < 4 ∨ p[11].toNat = 255
  | _ => True

/-- The first field that fails, if one does, is the one BAD_FIELD reports. -/
def Sys2Proof.Claims.FirstFailing (p : ParamBlock) (k : Nat) : Prop :=
  1 ≤ k ∧ k ≤ 12 ∧ ¬ fieldPasses p k ∧ ∀ j, j < k → fieldPasses p j

/-- The record that the parameters of DEFINE STATION describe, with the initial values of R14. -/
def Sys2Proof.Claims.described (s : State) (r : StationRecord) : Prop :=
  let p := s.params
  r.life = .online ∧ widthNumber r.width = p[1].toNat ∧ r.unit.val = p[2].toNat ∧
  r.policy = (if p[3].toNat = 0 then .noPort else if p[3].toNat = 1 then .fixed (Fin.ofNat 16 p[4].toNat) else .openPort) ∧
  r.acceptedPort = none ∧ r.mayTalk = p[5][0] ∧ r.mayListen = p[5][1] ∧
  r.inRegion = (if p[5][1] then some ⟨p[6].toFin, p[7].toNat⟩ else none) ∧
  r.outRegion = (if p[5][0] then some ⟨p[8].toFin, p[9].toNat⟩ else none) ∧
  r.options = ⟨p[10][0], p[10][1], p[10][2], p[10][3]⟩ ∧
  r.triggerLine = (if p[11].toNat = 255 then none else some (Fin.ofNat 4 p[11].toNat)) ∧
  r.lastMatched = none ∧ r.status = 0 ∧ r.request = .quiet ∧
  r.mode = (if s.lockout then .lockedLocal else .unlockedLocal) ∧
  r.inbound = .empty ∧ r.outbound = .empty ∧ r.notices = NoticeSet.none

/-- The record chosen: the number given if it is FREE, or for 255 the lowest-numbered FREE one (R11). -/
def Sys2Proof.Claims.Chosen (s : State) (n : StationNo) : Prop :=
  s.record n = none ∧
    (s.params[0].toNat = n.val ∨ (s.params[0].toNat = 255 ∧ ∀ m : StationNo, m < n → s.record m ≠ none))

/-- The address key of the record conflicts with that of an ONLINE station: some ROUTE address would reach both (R12). -/
def Sys2Proof.Claims.KeyConflict (s : State) (r : StationRecord) (m : StationNo) : Prop :=
  ∃ q a, Online s m q ∧ r.matchesRoute a = true ∧ q.matchesRoute a = true

/-- A region of the record shares a byte with a region of an ONLINE or RETIRING station, or, for its own number, its two regions share one (R13). -/
def Sys2Proof.Claims.RegionConflict (s : State) (n : StationNo) (r : StationRecord) (m : StationNo) : Prop :=
  (m = n ∧ ∃ g h a, r.inRegion = some g ∧ r.outRegion = some h ∧ g.contains a = true ∧ h.contains a = true) ∨
  (m ≠ n ∧ ∃ q i j g h a, s.record m = some q ∧ q.life ≠ .retired ∧ r.region i = some g ∧ q.region j = some h ∧
    g.contains a = true ∧ h.contains a = true)

/-- With all twelve fields passed, a FREE record chosen, and neither its address key nor its pages in conflict, DEFINE STATION makes the record
ONLINE with the parameters given and the initial values of R14, and returns its number; nothing else changes (R9 to R14). -/
def Obligations.DefineMakesStation : Prop :=
  ∀ s n r, s.regionLaw → Ready s → (∀ k, fieldPasses s.params k) → Chosen s n → described s r →
    (∀ m, ¬ KeyConflict s r m) → (∀ m, ¬ RegionConflict s n r m) →
    exec .defineStation s = .next (completed (s.setRecord n (some r)) .ok (s.params.set 31 (BitVec.ofNat 8 n.val)))

/-- DEFINE STATION refuses, in this order, the first field that fails, a record that is not FREE or none FREE for 255, an address key that conflicts
and pages that do, the last two with the lowest-numbered station in conflict; a refusal changes no station (R10 to R13). -/
def Obligations.DefineRefused : Prop :=
  (∀ s k, Ready s → FirstFailing s.params k → exec .defineStation s = .next (refused s .badField (BitVec.ofNat 8 k))) ∧
  (∀ s n r, Ready s → (∀ k, fieldPasses s.params k) → s.params[0].toNat = n.val → s.record n = some r →
    exec .defineStation s = .next (refused s .stationInUse 0)) ∧
  (∀ s, Ready s → (∀ k, fieldPasses s.params k) → s.params[0].toNat = 255 → (∀ n, s.record n ≠ none) →
    exec .defineStation s = .next (refused s .noFreeStation 0)) ∧
  (∀ s n r m, Ready s → (∀ k, fieldPasses s.params k) → Chosen s n → described s r →
    KeyConflict s r m → (∀ j, j < m → ¬ KeyConflict s r j) →
    exec .defineStation s = .next (refused s .addressInUse (BitVec.ofNat 8 m.val))) ∧
  (∀ s n r m, s.regionLaw → Ready s → (∀ k, fieldPasses s.params k) → Chosen s n → described s r →
    (∀ j, ¬ KeyConflict s r j) → RegionConflict s n r m → (∀ j, j < m → ¬ RegionConflict s n r j) →
    exec .defineStation s = .next (refused s .regionInUse (BitVec.ofNat 8 m.val)))

/-- ADJUST STATION replaces the hold options and the trigger line of an ONLINE station and nothing else; its fields and the life state are checked
in that order (R15). -/
def Obligations.AdjustStation : Prop :=
  (∀ s n r, Ready s → Names s n → Online s n r → (s.params[2].toNat < 4 ∨ s.params[2].toNat = 255) →
    exec .adjustStation s = .next (okay s (s.setRecord n (some { r with
      options := ⟨s.params[1][0], s.params[1][1], s.params[1][2], s.params[1][3]⟩
      triggerLine := if s.params[2].toNat = 255 then none else some (Fin.ofNat 4 s.params[2].toNat) })))) ∧
  (∀ s n, Ready s → Names s n → 4 ≤ s.params[2].toNat → s.params[2].toNat ≠ 255 →
    exec .adjustStation s = .next (refused s .badField 3)) ∧
  (∀ s, Ready s → Refuses .adjustStation online (s.params[2].toNat < 4 ∨ s.params[2].toNat = 255) s)

/-- The seat of a station as READ STATION byte 24 gives it, without the owed bit: 1 the talk seat, 2 to 5 the lanes, 128 more when tentative. -/
def Sys2Proof.Claims.SeatNumber (s : State) (n : StationNo) (v : Nat) : Prop :=
  (v = 0 ∧ ∀ i p, s.place i = some p → p.station ≠ n) ∨
  (∃ t, s.place none = some ⟨n, t⟩ ∧ v = 1 + (if t then 128 else 0)) ∨
  (∃ (l : LaneNo) (t : Bool), s.place (some l) = some ⟨n, t⟩ ∧ v = 2 + l.val + (if t then 128 else 0))

/-- READ STATION copies the record of a station that is not FREE into bytes 1 to 30 by the layout of section 11.3 and changes no station
(R16, R172). Bytes 4 and 6 with their region absent and byte 26 with no hold are free values, which nothing is said of (log entry 2). -/
def Obligations.ReadStation : Prop :=
  (∀ s n r, s.Inv → Ready s → Names s n → s.record n = some r →
    ∃ t, exec .readStation s = .next t ∧
      t = { okay s s with params := t.params, freeCount := t.freeCount } ∧
      t.params[0] = s.params[0] ∧
      t.params[1].toNat = (match r.life with | .online => 1 | .retiring => 2 | .retired => 3) +
        (if r.mayTalk then 16 else 0) + (if r.mayListen then 32 else 0) ∧
      t.params[2].toNat = r.unit.val ∧
      t.params[3].toNat = widthNumber r.width +
        (match r.policy with | .noPort => 0 | .fixed q => 4 + 16 * q.val | .openPort => 8) ∧
      (∀ g, r.inRegion = some g → t.params[4].toNat = g.first.val ∧ t.params[5].toNat = g.count % 256) ∧
      (r.inRegion = none → t.params[5] = 0) ∧
      (∀ g, r.outRegion = some g → t.params[6].toNat = g.first.val ∧ t.params[7].toNat = g.count % 256) ∧
      (r.outRegion = none → t.params[7] = 0) ∧
      t.params[8].toNat = (if r.options.onClear then 1 else 0) + (if r.options.onTrigger then 2 else 0) +
        (if r.options.onEnd then 4 else 0) + (if r.options.passPrivate then 8 else 0) ∧
      t.params[9].toNat = (match r.triggerLine with | none => 255 | some l => l.val) ∧
      t.params[10].toNat = (match r.lastMatched with | none => 0 | some a => a.unit.val) ∧
      (∀ a, r.lastMatched = some a → t.params[11].toNat = (match a.port with | none => 0 | some q => 128 + q.val)) ∧
      t.params[12].toNat = (match r.acceptedPort with | none => 0 | some q => 128 + q.val) ∧
      t.params[13].toNat = r.status.toNat ∧
      t.params[14].toNat = (match r.request with | .quiet => 0 | .asking => 1 | .answered => 2) ∧
      t.params[15].toNat = (match r.mode with | .unlockedLocal => 0 | .unlockedRemote => 1 | .lockedLocal => 2 | .lockedRemote => 3) ∧
      t.params[16].toNat = (match r.inbound with | .empty => 0 | .filling _ => 1 | .complete _ c => 2 + (if c then 128 else 0)) ∧
      t.params[17].toNat + 256 * t.params[18].toNat = r.inbound.fill ∧
      t.params[19].toNat = (match r.outbound with
        | .empty => 0
        | .posted _ e => 1 + (if e then 128 else 0)
        | .sending _ e _ => 2 + (if e then 128 else 0)
        | .closing _ e _ => 3 + (if e then 128 else 0)) ∧
      t.params[20].toNat + 256 * t.params[21].toNat = r.outbound.postedLength ∧
      t.params[22].toNat + 256 * t.params[23].toNat = r.outbound.cursor ∧
      SeatNumber s n (t.params[24].toNat - (if owedAt s n then 64 else 0)) ∧
      (∀ h ∈ s.holds, h.station = n → t.params[25].toNat = kindNumber h.kind ∧ t.params[26] = h.tag ∧
        t.params[27].toNat = h.remaining.getD 0) ∧
      (¬ Held s n → t.params[25] = 0 ∧ t.params[27] = 0) ∧
      t.params[28].toNat + 256 * t.params[29].toNat = noticeNumber r.notices ∧ t.params[30] = 0 ∧ t.params[31] = 0) ∧
  (∀ s, Ready s → Refuses .readStation (fun _ => True) True s)

/-- RETIRE STATION GRACEFUL makes an ONLINE station QUIET with its outbound EMPTY, and then RETIRING with PENDING while it is obliged, and else RETIRED
with OK; a station number above 31, a FREE record and one not ONLINE are refused (R8, R17, R18, R19, R23). -/
def Obligations.RetireGraceful : Prop :=
  (∀ s n r, Ready s → Names s n → Online s n r → Obliged s n →
    exec .retireStationGraceful s = .next (completed
      (s.setRecord n (some { r with request := .quiet, outbound := .empty, life := .retiring })) .pending
      ((s.params.set 1 0).set 31 0))) ∧
  (∀ s n r, Ready s → Names s n → Online s n r → ¬ Obliged s n →
    exec .retireStationGraceful s = .next (completed
      { s.setRecord n (some (retired { r with request := .quiet, outbound := .empty })) with noticeList := joins s n r } .ok
      ((s.params.set 1 0).set 31 0))) ∧
  (∀ s n r, Ready s → Names s n → s.record n = some r → r.life ≠ .online →
    exec .retireStationGraceful s = .next (completed s .notOnline ((s.params.set 1 0).set 31 0))) ∧
  (∀ s n, Ready s → Names s n → s.record n = none →
    exec .retireStationGraceful s = .next (completed s .notDefined ((s.params.set 1 0).set 31 0))) ∧
  (∀ s, Ready s → 32 ≤ s.params[0].toNat →
    exec .retireStationGraceful s = .next (completed s .badField ((s.params.set 1 0).set 31 1)))

/-- RETIRE STATION IMMEDIATE takes an ONLINE or RETIRING station out of its places, its hold and the owed set without verdict or notice, and makes it
RETIRED; a station number above 31, a FREE record and a RETIRED one are refused (R8, R17, R18, R22, R23, R71, R91, R109). -/
def Obligations.RetireImmediate : Prop :=
  (∀ s n r, Ready s → Names s n → s.record n = some r → r.life ≠ .retired →
    exec .retireStationImmediate s = .next (completed
      { s with
        stations := s.stations.set n (some (retired
          (if r.life = .online then { r with request := .quiet, outbound := .empty } else r)))
        noticeList := joins s n r
        talkSeat := vacate s.talkSeat n
        lanes := s.lanes.map (fun p => vacate p n)
        holds := s.holds.filter (fun h => decide (h.station ≠ n))
        privateCopy := copyKept s (s.holds.filter (fun h => decide (h.station ≠ n)))
        stage := stageWithout s n } .ok
      ((s.params.set 1 1).set 31 0))) ∧
  (∀ s n r, Ready s → Names s n → s.record n = some r → r.life = .retired →
    exec .retireStationImmediate s = .next (completed s .notOnline ((s.params.set 1 1).set 31 0))) ∧
  (∀ s n, Ready s → Names s n → s.record n = none →
    exec .retireStationImmediate s = .next (completed s .notDefined ((s.params.set 1 1).set 31 0))) ∧
  (∀ s, Ready s → 32 ≤ s.params[0].toNat →
    exec .retireStationImmediate s = .next (completed s .badField ((s.params.set 1 1).set 31 1)))

/-! ## Requests, modes and the outbound -/

/-- SET STATUS replaces the status byte of an ONLINE station, in any request state, and nothing else; a value above 127 fails field 2 (R129). -/
def Obligations.SetStatus : Prop :=
  (∀ s n r, Ready s → Names s n → Online s n r → s.params[1].toNat ≤ 127 →
    exec .setStatus s = .next (okay s (s.setRecord n (some { r with status := BitVec.ofNat 7 s.params[1].toNat })))) ∧
  (∀ s n, Ready s → Names s n → 127 < s.params[1].toNat → exec .setStatus s = .next (refused s .badField 2)) ∧
  (∀ s, Ready s → Refuses .setStatus online (s.params[1].toNat ≤ 127) s)

/-- REQUEST SERVICE makes a QUIET or ASKING station ASKING with a new status byte, and refuses an ANSWERED one; a value above 127 fails
field 2 (R130). -/
def Obligations.RequestService : Prop :=
  (∀ s n r, Ready s → Names s n → Online s n r → s.params[1].toNat ≤ 127 →
    exec .requestService s = .next
      (if r.request = .answered then refused s .requestUnwithdrawn 0
       else okay s (s.setRecord n (some { r with request := .asking, status := BitVec.ofNat 7 s.params[1].toNat })))) ∧
  (∀ s n, Ready s → Names s n → 127 < s.params[1].toNat → exec .requestService s = .next (refused s .badField 2)) ∧
  (∀ s, Ready s → Refuses .requestService online (s.params[1].toNat ≤ 127) s)

/-- WITHDRAW REQUEST makes an ONLINE station QUIET, keeps its status byte and its notices, and returns the request state found (R131). -/
def Obligations.WithdrawRequest : Prop :=
  (∀ s n r, Ready s → Names s n → Online s n r →
    exec .withdrawRequest s = .next (completed (s.setRecord n (some { r with request := .quiet })) .ok
      ((s.params.set 1 (match r.request with | .quiet => 0 | .asking => 1 | .answered => 2)).set 31 0))) ∧
  (∀ s, Ready s → Refuses .withdrawRequest online True s)

/-- RETURN TO LOCAL makes a REMOTE station LOCAL without a notice, answers LOCKED for REMOTE_LOCKED and ALREADY_LOCAL for the local modes, and
changes no flag (R142). -/
def Obligations.ReturnToLocal : Prop :=
  (∀ s n r, Ready s → Names s n → Online s n r →
    exec .returnToLocal s = .next (match r.mode with
      | .unlockedRemote => okay s (s.setRecord n (some { r with mode := .unlockedLocal }))
      | .lockedRemote => refused s .locked 0
      | .unlockedLocal => refused s .alreadyLocal 0
      | .lockedLocal => refused s .alreadyLocal 0)) ∧
  (∀ s, Ready s → Refuses .returnToLocal online True s)

/-- Field 2 of POST OUTBOUND: the posted length, its low byte first. -/
def Sys2Proof.Claims.postedField (s : State) : Nat := s.params[1].toNat + 256 * s.params[2].toNat

/-- Fields 2 and 3 of POST OUTBOUND pass (R115). -/
def Sys2Proof.Claims.postFieldsPass (s : State) : Prop :=
  postedField s ≤ 2048 ∧ (s.params[3].toNat = 1 ∨ (s.params[3].toNat = 0 ∧ 1 ≤ postedField s))

/-- POST OUTBOUND makes an EMPTY outbound POSTED with the length and end flag given; the fields, the life state, the role, the capacity and the outbound
are tested in that order (R115). -/
def Obligations.PostOutbound : Prop :=
  (∀ s n r, Ready s → Names s n → postFieldsPass s → Online s n r →
    exec .postOutbound s = .next
      (if r.mayTalk = false then refused s .badField 1
       else if regionCapacity r.outRegion < postedField s then refused s .badField 2
       else if r.outbound ≠ .empty then refused s .outboundBusy 0
       else okay s (s.setRecord n (some { r with outbound := .posted (postedField s) (decide (s.params[3].toNat = 1)) })))) ∧
  (∀ s n, Ready s → Names s n → 2048 < postedField s → exec .postOutbound s = .next (refused s .badField 2)) ∧
  (∀ s n, Ready s → Names s n → postedField s ≤ 2048 → ¬ postFieldsPass s →
    exec .postOutbound s = .next (refused s .badField 3)) ∧
  (∀ s, Ready s → Refuses .postOutbound online (postFieldsPass s) s)

/-- CANCEL OUTBOUND withdraws a POSTED message, closes a SENDING one with its length, end flag and cursor kept, and otherwise answers
NOTHING_TO_CANCEL (R116). -/
def Obligations.CancelOutbound : Prop :=
  (∀ s n r, Ready s → Names s n → Online s n r →
    exec .cancelOutbound s = .next (match r.outbound with
      | .posted _ _ => okay s (s.setRecord n (some { r with outbound := .empty }))
      | .sending len e c => okay s (s.setRecord n (some { r with outbound := .closing len e c }))
      | .empty => refused s .nothingToCancel 0
      | .closing _ _ _ => refused s .nothingToCancel 0)) ∧
  (∀ s, Ready s → Refuses .cancelOutbound online True s)

/-! ## The inbound, notices and holds -/

/-- The result bytes of RELEASE INBOUND: delivered, then the inbound state with its continues mark and the fill length (R172). -/
def Sys2Proof.Claims.releaseResult (p : ParamBlock) (delivered : Byte) (i : Inbound) : ParamBlock :=
  ((((p.set 1 delivered).set 2 (match i with | .empty => 0 | .filling _ => 1 | .complete _ c => if c then 0x82 else 2)).set 3
    (BitVec.ofNat 8 (i.fill % 256))).set 4 (BitVec.ofNat 8 (i.fill / 256))).set 31 0

/-- RELEASE INBOUND empties a COMPLETE inbound. With the station not owed the staged frame nothing further happens. With it owed, the frame is stored
from the region's first byte by R98, an END hold is raised where R106 has one, and the station leaves the owed set; no other byte of memory changes. An
inbound that is not COMPLETE is refused (R105, R106). That the unnamed bits of result byte 2 are 0 is log entry 3. -/
def Obligations.ReleaseInbound : Prop :=
  (∀ s n r f c, Ready s → Names s n → s.record n = some r → r.life ≠ .retired → r.inbound = .complete f c → ¬ Owed s n →
    exec .releaseInbound s = .next (completed (s.setRecord n (some { r with inbound := .empty })) .ok
      (releaseResult s.params 0 .empty))) ∧
  (∀ s n r g, s.Inv → Ready s → Names s n → s.record n = some r → s.stage = some g → n ∈ g.owed →
    let after := inboundOffered { r with inbound := .empty } g.body g.endMark
    let hold := g.endMark && r.options.onEnd
    ∃ t, exec .releaseInbound s = .next t ∧
      (∀ m, t.record m = if m = n then some { r with
        inbound := after
        notices := if after.isComplete then { r.notices with inboundComplete := true } else r.notices } else s.record m) ∧
      (∀ i, (h : i < g.body.length) → t.readByte (regionBase r.inRegion + i) = g.body[i]) ∧
      (∀ a, ¬ (regionBase r.inRegion ≤ a ∧ a < regionBase r.inRegion + g.body.length) → t.readByte a = s.readByte a) ∧
      t.noticeList = (if after.isComplete then joins s n r else s.noticeList) ∧
      t = { s with
        stations := t.stations, noticeList := t.noticeList, memory := t.memory
        holds := if hold then s.holds ++ raised s [(n, .endOfMessage)] else s.holds
        holdTag := if hold then s.holdTag + 1 else s.holdTag
        stage := stageWithout s n
        engine := .done, result := .ok, params := releaseResult s.params 1 after }) ∧
  (∀ s n r, Ready s → Names s n → s.record n = some r → r.life ≠ .retired → (∀ f c, r.inbound ≠ .complete f c) →
    exec .releaseInbound s = .next (refused s .inboundNotHeld 0)) ∧
  (∀ s, Ready s → Refuses .releaseInbound live True s)

/-- The result bytes of TAKE NOTICE: the station, the notice set low byte first, and the count left (R172). -/
def Sys2Proof.Claims.noticeResult (p : ParamBlock) (station low high count : Byte) : ParamBlock :=
  ((((p.set 0 station).set 1 low).set 2 high).set 3 count).set 31 0

/-- TAKE NOTICE takes the head of the notice list with its whole set, which it clears; a set that held RETIRED makes the record FREE; an empty list
answers EMPTY with station 255 (R157, R158). -/
def Obligations.TakeNotice : Prop :=
  (∀ s n rest r, Ready s → s.noticeList = n :: rest → s.record n = some r →
    exec .takeNotice s = .next (completed
      { s.setRecord n (if r.notices.retired then none else some { r with notices := NoticeSet.none }) with noticeList := rest } .ok
      (noticeResult s.params (BitVec.ofNat 8 n.val) (BitVec.ofNat 8 (noticeNumber r.notices % 256))
        (BitVec.ofNat 8 (noticeNumber r.notices / 256)) (BitVec.ofNat 8 rest.length)))) ∧
  (∀ s, Ready s → s.noticeList = [] →
    exec .takeNotice s = .next (completed s .empty (noticeResult s.params 255 0 0 0))) ∧
  (∀ ns : NoticeSet, ns.lowByte[0] = ns.inboundComplete ∧ ns.lowByte[1] = ns.outboundDone ∧ ns.lowByte[2] = ns.dataLost ∧
    ns.lowByte[3] = ns.polled ∧ ns.lowByte[4] = ns.modeChanged ∧ ns.lowByte[5] = ns.cleared ∧ ns.lowByte[6] = ns.triggered ∧
    ns.lowByte[7] = ns.seatDenied ∧ ns.highByte[0] = ns.holdExpired ∧ ns.highByte[1] = ns.holdWithdrawn ∧ ns.highByte[2] = ns.retired ∧
    ns.highByte.toNat < 8)

/-- The detail bytes of READ HOLD, from byte 6 (section 11.3). -/
def Sys2Proof.Claims.Detail (s : State) (k : HoldKind) (p : ParamBlock) : Prop :=
  match k with
  | .port u q => p[6].toNat = u.val ∧ p[7].toNat = 128 + q.val
  | .clear scope => p[6].toNat = (if scope = .all then 0 else 1)
  | .privateFrame => ∀ c, s.privateCopy = some c → c.body.length ≤ 12 →
    p[6].toNat = c.code.toNat ∧ p[7].toNat = c.body.length ∧
      ∀ i : Fin 12, (h : i.val < c.body.length) → p[8 + i.val] = c.body[i.val]
  | _ => True

/-- READ HOLD copies a pending hold, the head of the list for 255 or the hold of the station named, into bytes 1 to 5 and the detail behind them,
and changes no hold; with none it answers EMPTY or NO_HOLD (R92). -/
def Obligations.ReadHold : Prop :=
  (∀ s h, s.Inv → Ready s →
    ((s.params[0].toNat = 255 ∧ s.holds.head? = some h) ∨ (s.params[0].toNat = h.station.val ∧ h ∈ s.holds)) →
    ∃ t, exec .readHold s = .next t ∧ t = { okay s s with params := t.params } ∧
      t.params[0] = s.params[0] ∧ t.params[1].toNat = h.station.val ∧ t.params[2].toNat = kindNumber h.kind ∧ t.params[3] = h.tag ∧
      t.params[4].toNat = h.remaining.getD 0 ∧ t.params[5].toNat = s.holds.length ∧ t.params[31] = 0 ∧ Detail s h.kind t.params) ∧
  (∀ s, Ready s → s.params[0].toNat = 255 → s.holds = [] → exec .readHold s = .next (refused s .empty 0)) ∧
  (∀ s n r, Ready s → Names s n → s.record n = some r → r.life ≠ .retired → ¬ Held s n →
    exec .readHold s = .next (refused s .noHold 0)) ∧
  (∀ s, Ready s → s.params[0].toNat ≠ 255 → Refuses .readHold live True s)

/-- The record of an ONLINE station after a verdict on its hold: ACCEPT of a PORT hold writes the accepted port and, in a lane, makes the remote
transition; ACCEPT of a CLEAR hold clears and of a TRIGGER hold triggers; the rest is release alone (R67, R83 to R86). -/
def Sys2Proof.Claims.answered (s : State) (n : StationNo) (k : HoldKind) (accept : Bool) (r : StationRecord) : StationRecord :=
  if accept = false then r
  else match k with
    | .port _ q =>
      let ported := { r with acceptedPort := some q }
      if s.place none = some ⟨n, true⟩ then ported else transition s ported
    | .clear _ => cleared r
    | .trigger => { r with notices := { r.notices with triggered := true } }
    | _ => r

/-- ANSWER HOLD with the tag of an ONLINE station's pending hold takes the hold out of the list and applies the verdict: an accepted PORT hold seats the
station in its place and a refused one frees the place; a station without that hold answers NO_HOLD, and any other verdict fails field 3 (R82 to R88). -/
def Obligations.AnswerHold : Prop :=
  (∀ s n r h, s.Inv → Ready s → Names s n → Online s n r → h ∈ s.holds → h.station = n → h.tag = s.params[1] → s.params[2].toNat ≤ 1 →
    let accept := decide (s.params[2].toNat = 0)
    let left := s.holds.filter (fun h => decide (h.station ≠ n))
    ∃ t, exec .answerHold s = .next t ∧
      (∀ m, t.record m = if m = n then some (answered s n h.kind accept r) else s.record m) ∧
      (∀ i, t.place i = match s.place i with
        | none => none
        | some p => if p = ⟨n, true⟩ then (if accept then some ⟨n, false⟩ else none) else some p) ∧
      t.noticeList = (if (answered s n h.kind accept r).notices = r.notices then s.noticeList else joins s n r) ∧
      t = { okay s s with
        stations := t.stations, noticeList := t.noticeList, talkSeat := t.talkSeat, lanes := t.lanes, holds := left
        privateCopy := copyKept s left }) ∧
  (∀ s n r, Ready s → Names s n → s.record n = some r → r.life ≠ .retired → s.params[2].toNat ≤ 1 →
    (∀ h ∈ s.holds, h.station = n → h.tag ≠ s.params[1]) → exec .answerHold s = .next (refused s .noHold 0)) ∧
  (∀ s n, Ready s → Names s n → 1 < s.params[2].toNat → exec .answerHold s = .next (refused s .badField 3)) ∧
  (∀ s, Ready s → Refuses .answerHold live (s.params[2].toNat ≤ 1) s)

/-- A verdict on a RETIRING station's hold: a PORT hold's place is freed whichever verdict it is, an accepted CLEAR clears and an accepted TRIGGER
triggers (R69, R87). A station still seated in a place or owed the staged frame stays RETIRING with that effect. For any other the verdict ends its last
obligation and completes its retirement: an accepted CLEAR keeps its CLEARED, and a TRIGGERED just added is removed again (R21, R23, R88). Nothing else
changes. -/
def Obligations.AnswerRetires : Prop :=
  ∀ s n r h, s.Inv → Ready s → Names s n → s.record n = some r → r.life = .retiring → h ∈ s.holds → h.station = n →
    h.tag = s.params[1] → s.params[2].toNat ≤ 1 →
    let accept := decide (s.params[2].toNat = 0)
    let stays := seatedAt s n || owedAt s n
    let left := s.holds.filter (fun h => decide (h.station ≠ n))
    let after : StationRecord := match h.kind with
      | .clear _ => if accept then cleared r else r
      | .trigger => if accept then { r with notices := { r.notices with triggered := true } } else r
      | _ => r
    ∃ t, exec .answerHold s = .next t ∧
      (∀ m, t.record m = if m = n then some (if stays then after else retired after) else s.record m) ∧
      (∀ i, t.place i = match s.place i with
        | none => none
        | some p => if p = ⟨n, true⟩ then none else some p) ∧
      t.noticeList = (if stays ∧ after.notices = r.notices then s.noticeList else joins s n r) ∧
      t = { okay s s with
        stations := t.stations, noticeList := t.noticeList, talkSeat := t.talkSeat, lanes := t.lanes, holds := left
        privateCopy := copyKept s left }

/-- READ ROUTE returns the five places, LANE_OVERFLOW and DENIED_STATION in bytes 0 to 6 and changes nothing else (R73, R172). That the unnamed bits of a
place byte are 0 is log entry 3. -/
def Obligations.ReadRoute : Prop :=
  ∀ s, Ready s →
    let place := fun i => match s.place i with
      | none => (255 : Byte)
      | some p => BitVec.ofNat 8 (p.station.val + (if p.tentative then 128 else 0))
    exec .readRoute s = .next (completed s .ok
      ((((((((s.params.set 0 (place none)).set 1 (place (some 0))).set 2 (place (some 1))).set 3 (place (some 2))).set 4
        (place (some 3))).set 5 (if s.device.laneOverflow then 1 else 0)).set 6 (BitVec.ofNat 8 s.deniedStation.val)).set 31 0))

/-- SET HOLD LIMIT replaces the limit by any byte and completes with OK, leaving every running timer (R79). FORCE TRIGGER sets or clears the forced flag
of a line 0 to 3 and changes nothing else; any other line fails field 1 and any other state field 2 (R151). -/
def Obligations.LimitAndForce : Prop :=
  (∀ s, Ready s → exec .setHoldLimit s = .next (okay s { s with holdLimit := s.params[0] })) ∧
  (∀ s (l : LineNo), Ready s → s.params[0].toNat = l.val → s.params[1].toNat ≤ 1 →
    exec .forceTrigger s = .next (okay s { s with forced := s.forced.set l.val (decide (s.params[1].toNat = 1)) })) ∧
  (∀ s (l : LineNo), Ready s → s.params[0].toNat = l.val → 1 < s.params[1].toNat →
    exec .forceTrigger s = .next (refused s .badField 2)) ∧
  (∀ s, Ready s → 4 ≤ s.params[0].toNat → exec .forceTrigger s = .next (refused s .badField 1))
end

