-- ==== Sys2Proof/Laws/Check.lean ====
section
/-! SUPPORT. A check of the laws of the machine that evaluates on a concrete state, and its soundness: a state that passes has `State.Inv`. -/

namespace Sys2Proof.Machine

/-- Every record that is not FREE has the property. -/
def State.allRecords (s : State) (p : StationNo → StationRecord → Bool) : Bool :=
  stationNumbers.all (fun n => match s.record n with | none => true | some r => p n r)

theorem State.allRecords_get {s : State} {p : StationNo → StationRecord → Bool} (h : s.allRecords p = true)
    {n : StationNo} {r : StationRecord} (e : s.record n = some r) : p n r = true := by
  have := (List.all_eq_true.mp h) n (List.mem_finRange n)
  simpa [e] using this

/-- The five places of the route. -/
def placeNames : List (Option LaneNo) := [none, some 0, some 1, some 2, some 3]

theorem mem_placeNames (i : Option LaneNo) : i ∈ placeNames := by
  cases i with
  | none => simp [placeNames]
  | some l => fin_cases l <;> simp [placeNames]

/-- Every occupied place has the property. -/
def State.allPlaces (s : State) (p : Option LaneNo → Place → Bool) : Bool :=
  placeNames.all (fun i => match s.place i with | none => true | some q => p i q)

theorem State.allPlaces_get {s : State} {p : Option LaneNo → Place → Bool} (h : s.allPlaces p = true)
    {i : Option LaneNo} {q : Place} (e : s.place i = some q) : p i q = true := by
  have := (List.all_eq_true.mp h) i (mem_placeNames i)
  simpa [e] using this

/-! ## The laws, one check each -/

def State.noticeCheck (s : State) : Bool :=
  decide s.noticeList.Nodup &&
    stationNumbers.all (fun n => decide (n ∈ s.noticeList) ==
      (match s.record n with | none => false | some r => !decide (r.notices = NoticeSet.none)))

theorem State.noticeCheck_sound {s : State} (h : s.noticeCheck = true) : s.noticeListLaw := by
  simp only [State.noticeCheck, Bool.and_eq_true, decide_eq_true_eq] at h
  refine ⟨h.1, fun n => ?_⟩
  have := (List.all_eq_true.mp h.2) n (List.mem_finRange n)
  rw [beq_iff_eq, Bool.eq_iff_iff, decide_eq_true_iff] at this
  rw [this]
  cases e : s.record n <;> simp

def State.modeCheck (s : State) : Bool :=
  (!s.lockout || s.remoteEnable) &&
    s.allRecords (fun _ r => decide (r.life ≠ .online) ||
      (if s.lockout then decide (r.mode = .lockedLocal ∨ r.mode = .lockedRemote)
       else if s.remoteEnable then decide (r.mode = .unlockedLocal ∨ r.mode = .unlockedRemote)
       else decide (r.mode = .unlockedLocal)))

theorem State.modeCheck_sound {s : State} (h : s.modeCheck = true) : s.modeLaw := by
  simp only [State.modeCheck, Bool.and_eq_true] at h
  refine ⟨fun e => by simpa [e] using h.1, fun n r e hl => ?_⟩
  have a := State.allRecords_get h.2 e
  have b := h.1
  cases hk : s.lockout <;> cases hr : s.remoteEnable <;> simp_all

def State.addressCheck (s : State) : Bool :=
  s.allRecords (fun n r => s.allRecords (fun m q => decide (n = m) || decide (r.life ≠ .online) || decide (q.life ≠ .online) ||
    !((List.finRange 128).any (fun x => coversUnit r.width r.unit x && coversUnit q.width q.unit x) &&
      ((none :: (List.finRange 16).map some).any (fun x => r.policy.covers x && q.policy.covers x)))))

theorem State.addressCheck_sound {s : State} (h : s.addressCheck = true) : s.addressLaw := by
  intro n m r q a hn hm ln lm mn mm
  by_contra hne
  have := State.allRecords_get (State.allRecords_get h hn) hm
  simp only [StationRecord.matchesRoute, Bool.and_eq_true] at mn mm
  have hu : (List.finRange 128).any (fun x => coversUnit r.width r.unit x && coversUnit q.width q.unit x) = true :=
    List.any_eq_true.mpr ⟨a.unit, List.mem_finRange _, by simp [mn.1, mm.1]⟩
  have hp : (none :: (List.finRange 16).map some).any (fun x => r.policy.covers x && q.policy.covers x) = true :=
    List.any_eq_true.mpr ⟨a.port, by cases a.port <;> simp, by simp [mn.2, mm.2]⟩
  simp only [hu, hp] at this
  simp [hne, ln, lm] at this

def regionCheck (g : Option Region) : Bool :=
  match g with
  | none => true
  | some g => decide (1 ≤ g.count ∧ g.count ≤ 64 ∧ g.first.val + g.count ≤ 256)

def State.regionsCheck (s : State) : Bool :=
  s.allRecords (fun n r => decide (r.life = .retired) ||
    ([true, false].all (fun i => regionCheck (r.region i)) &&
      s.allRecords (fun m q => decide (q.life = .retired) ||
        [true, false].all (fun i => [true, false].all (fun j => decide (n = m ∧ i = j) ||
          (match r.region i, q.region j with
            | some g, some h => !g.overlaps h
            | _, _ => true))))))

theorem State.regionsCheck_sound {s : State} (h : s.regionsCheck = true) : s.regionLaw := by
  constructor
  · intro n r i g hn hl hg
    have := State.allRecords_get h hn
    simp only [hl, decide_false, Bool.false_or, Bool.and_eq_true] at this
    have := (List.all_eq_true.mp this.1) i (by cases i <;> simp)
    simpa [regionCheck, hg] using this
  · intro n m r q i j g k a hn hm ln lm hg hk ha hb
    have := State.allRecords_get h hn
    simp only [ln, decide_false, Bool.false_or, Bool.and_eq_true] at this
    have := State.allRecords_get this.2 hm
    simp only [lm, decide_false, Bool.false_or] at this
    have := (List.all_eq_true.mp this) i (by cases i <;> simp)
    have := (List.all_eq_true.mp this) j (by cases j <;> simp)
    simp only [hg, hk, Bool.or_eq_true, decide_eq_true_eq, Bool.not_eq_true'] at this
    rcases this with this | this
    · exact this
    · simp only [Region.contains, Bool.and_eq_true, decide_eq_true_eq] at ha hb
      simp only [Region.base, Region.capacity] at ha hb
      simp [Region.overlaps] at this
      omega

def StationRecord.inboundCheck (r : StationRecord) : Bool :=
  match r.inbound with
  | .empty => true
  | .filling f => decide (1 ≤ f ∧ f + 1 ≤ regionCapacity r.inRegion)
  | .complete f _ => decide (r.inRegion ≠ none ∧ f ≤ regionCapacity r.inRegion)

def StationRecord.outboundCheck (r : StationRecord) : Bool :=
  match r.outbound with
  | .empty => true
  | .posted n e => decide (r.outRegion ≠ none ∧ n ≤ regionCapacity r.outRegion ∧ (n = 0 → e = true))
  | .sending n _ c => decide (n ≤ regionCapacity r.outRegion ∧ 1 ≤ c ∧ c + 1 ≤ n)
  | .closing n _ c => decide (n ≤ regionCapacity r.outRegion ∧ 1 ≤ c ∧ c + 1 ≤ n)

def StationRecord.check (r : StationRecord) : Bool :=
  unitAllowed r.width r.unit.val && decide (r.mayTalk = true ∨ r.mayListen = true) &&
  decide (r.inRegion ≠ none ↔ r.mayListen = true ∧ r.life ≠ .retired) &&
  decide (r.outRegion ≠ none ↔ r.mayTalk = true ∧ r.life ≠ .retired) &&
  r.inboundCheck && r.outboundCheck && decide (r.acceptedPort ≠ none → r.policy = .openPort) &&
  decide (r.life ≠ .online → r.request = .quiet ∧ r.outbound = .empty) &&
  decide (r.life = .retired → r.inbound = .empty ∧ r.mode = .unlockedLocal ∧ r.lastMatched = none ∧ r.acceptedPort = none)

theorem StationRecord.check_sound {r : StationRecord} (h : r.check = true) : r.wellFormed := by
  simp only [StationRecord.check, Bool.and_eq_true, decide_eq_true_eq] at h
  obtain ⟨⟨⟨⟨⟨⟨⟨⟨h1, h2⟩, h3⟩, h4⟩, h5⟩, h6⟩, h7⟩, h8⟩, h9⟩ := h
  refine ⟨h1, h2, h3, h4, ?_, ?_, h7, h8, h9⟩
  · unfold StationRecord.inboundCheck at h5
    unfold StationRecord.inboundLaw
    revert h5
    cases r.inbound <;> first | exact fun _ => trivial | exact fun h => of_decide_eq_true h
  · unfold StationRecord.outboundCheck at h6
    unfold StationRecord.outboundLaw
    revert h6
    cases r.outbound <;> first | exact fun _ => trivial | exact fun h => of_decide_eq_true h

def State.routeCheck (s : State) : Bool :=
  s.allPlaces (fun i p => s.allPlaces (fun j q => decide (p.station = q.station → i = j))) &&
  s.allPlaces (fun i p => match s.record p.station with
    | none => false
    | some r => decide (r.life ≠ .retired) && (if i = none then r.mayTalk else r.mayListen) &&
      (!p.tentative || decide (r.policy = .openPort))) &&
  s.allRecords (fun n r => decide (r.acceptedPort = none) || placeNames.any (fun i => decide (s.place i = some ⟨n, false⟩)))

theorem State.routeCheck_sound {s : State} (h : s.routeCheck = true) : s.routeLaw := by
  simp only [State.routeCheck, Bool.and_eq_true] at h
  obtain ⟨⟨h1, h2⟩, h3⟩ := h
  refine ⟨?_, ?_, ?_⟩
  · intro i j p q hp hq e
    have := State.allPlaces_get (State.allPlaces_get h1 hp) hq
    exact (of_decide_eq_true this) e
  · intro i p hp
    have := State.allPlaces_get h2 hp
    cases e : s.record p.station with
    | none => simp [e] at this
    | some r =>
      simp only [e, Bool.and_eq_true, decide_eq_true_eq] at this
      refine ⟨r, rfl, this.1.1, ?_, ?_⟩
      · have a := this.1.2
        split at a <;> simp_all
      · intro t
        have a := this.2
        simpa [t] using a
  · intro n r hn ha
    have := State.allRecords_get h3 hn
    simp only [ha, decide_false, Bool.false_or, List.any_eq_true, decide_eq_true_eq] at this
    obtain ⟨i, _, e⟩ := this
    exact ⟨i, e⟩

def timerCheck (t : Option Nat) : Bool :=
  match t with
  | none => true
  | some t => decide (1 ≤ t ∧ t ≤ 255)

theorem timerCheck_sound {t : Option Nat} (h : timerCheck t = true) (n : Nat) (e : t = some n) : 1 ≤ n ∧ n ≤ 255 := by
  subst e; simpa [timerCheck] using h

/-- Whether a hold is a PORT hold. -/
def HoldKind.isPort : HoldKind → Bool
  | .port _ _ => true
  | _ => false

def State.holdCheck (s : State) : Bool :=
  decide (s.holds.map (fun h => h.station)).Nodup &&
  s.holds.all (fun h => s.isLive h.station) &&
  stationNumbers.all (fun n => placeNames.any (fun i => decide (s.place i = some ⟨n, true⟩)) ==
    s.holds.any (fun h => decide (h.station = n) && h.kind.isPort)) &&
  s.holds.all (fun h => timerCheck h.remaining) &&
  (s.privateCopy.isSome == s.holds.any (fun h => decide (h.kind = .privateFrame)))

theorem State.holdCheck_sound {s : State} (h : s.holdCheck = true) : s.holdLaw := by
  simp only [State.holdCheck, Bool.and_eq_true, decide_eq_true_eq] at h
  obtain ⟨⟨⟨⟨h1, h2⟩, h3⟩, h4⟩, h5⟩ := h
  refine ⟨h1, List.all_eq_true.mp h2, ?_, ?_, ?_⟩
  · intro n
    have := (List.all_eq_true.mp h3) n (List.mem_finRange n)
    rw [beq_iff_eq, Bool.eq_iff_iff, List.any_eq_true, List.any_eq_true] at this
    constructor
    · rintro ⟨i, e⟩
      obtain ⟨k, hk, e'⟩ := this.mp ⟨i, mem_placeNames i, by simp [e]⟩
      simp only [Bool.and_eq_true, decide_eq_true_eq] at e'
      refine ⟨k, hk, e'.1, ?_⟩
      cases hh : k.kind <;> simp_all [HoldKind.isPort]
    · rintro ⟨k, hk, e, u, q, e'⟩
      obtain ⟨i, _, e''⟩ := this.mpr ⟨k, hk, by simp [e, e', HoldKind.isPort]⟩
      exact ⟨i, by simpa using e''⟩
  · intro k hk t e
    exact timerCheck_sound ((List.all_eq_true.mp h4) k hk) t e
  · rw [beq_iff_eq, Bool.eq_iff_iff, List.any_eq_true] at h5
    rw [Option.isSome_iff_ne_none] at h5
    simpa using h5

def State.stageCheck (s : State) : Bool :=
  match s.stage with
  | none => true
  | some g =>
    decide (g.body.length ≤ 32) && (g.endMark || !g.body.isEmpty) && !g.owed.isEmpty && decide (g.owed.Pairwise (fun a b => a < b)) &&
    timerCheck g.remaining &&
    g.owed.all (fun n => laneNumbers.any (fun l => decide (s.lane l = some ⟨n, false⟩)) && decide (s.pendingHold n = none) &&
      (match s.record n with | none => false | some r => r.inbound.isComplete))

theorem State.stageCheck_sound {s : State} (h : s.stageCheck = true) : s.stageLaw := by
  intro g e
  simp only [State.stageCheck, e, Bool.and_eq_true, decide_eq_true_eq] at h
  obtain ⟨⟨⟨⟨⟨h1, h2⟩, h3⟩, h4⟩, h5⟩, h6⟩ := h
  refine ⟨h1, ?_, by simpa using h3, h4, fun t e => timerCheck_sound h5 t e, ?_⟩
  · simpa using h2
  · intro n hn
    have := (List.all_eq_true.mp h6) n hn
    simp only [Bool.and_eq_true, List.any_eq_true, decide_eq_true_eq] at this
    obtain ⟨⟨⟨l, _, a⟩, b⟩, c⟩ := this
    refine ⟨⟨l, a⟩, b, ?_⟩
    cases hr : s.record n with
    | none => simp [hr] at c
    | some r => exact ⟨r, rfl, by simpa [hr] using c⟩

def State.linkCheck (s : State) : Bool :=
  (s.attached || (placeNames.all (fun i => decide (s.place i = none)) && decide (s.holds = []) && decide (s.stage = none) &&
    decide (s.replyWaiting = none) && decide (s.replySending = none) && decide (s.reception = .awaitingGap) &&
    !s.remoteEnable && !s.lockout)) &&
  (decide (s.reception ≠ .receiving false) || !s.lbusy)

theorem State.linkCheck_sound {s : State} (h : s.linkCheck = true) : s.linkLaw := by
  simp only [State.linkCheck, Bool.and_eq_true] at h
  constructor
  · intro e
    have := h.1
    simp only [e, Bool.false_or, Bool.and_eq_true, decide_eq_true_eq, Bool.not_eq_true', List.all_eq_true] at this
    obtain ⟨⟨⟨⟨⟨⟨⟨a, b⟩, c⟩, d⟩, e1⟩, f⟩, g⟩, k⟩ := this
    exact ⟨fun i => a i (mem_placeNames i), b, c, d, e1, f, g, k⟩
  · intro e
    have := h.2
    simpa [e] using this

def State.hostCheck (s : State) : Bool :=
  (match s.engine with
    | .busy _ p => decide (p = s.params ∧ s.result = .noneYet)
    | _ => true) &&
  (!s.nrstLow || (!s.attached && decide (s.engine = .idle)))

theorem State.hostCheck_sound {s : State} (h : s.hostCheck = true) : s.hostLaw := by
  simp only [State.hostCheck, Bool.and_eq_true] at h
  constructor
  · intro c p e
    simpa [e] using h.1
  · intro e
    simpa [e] using h.2

/-- The check of all the laws. -/
def State.check (s : State) : Bool :=
  s.noticeCheck && s.allRecords (fun _ r => decide (r.notices.retired = true ↔ r.life = .retired)) && s.modeCheck && s.addressCheck &&
  s.regionsCheck && s.allRecords (fun _ r => r.check) && s.routeCheck && s.holdCheck && s.stageCheck &&
  stationNumbers.all (fun n => !s.hasLife n .retiring || s.hasObligation n) && s.linkCheck && s.hostCheck && Memory.wf s.memory

/-- A state that passes the check meets every law. -/
theorem State.check_sound {s : State} (h : s.check = true) : s.Inv := by
  simp only [State.check, Bool.and_eq_true] at h
  obtain ⟨⟨⟨⟨⟨⟨⟨⟨⟨⟨⟨⟨h1, h2⟩, h3⟩, h4⟩, h5⟩, h6⟩, h7⟩, h8⟩, h9⟩, h10⟩, h11⟩, h12⟩, h13⟩ := h
  exact {
    noticeList := State.noticeCheck_sound h1
    retiredNotice := fun n r e => of_decide_eq_true (State.allRecords_get h2 e)
    modes := State.modeCheck_sound h3
    addresses := State.addressCheck_sound h4
    regions := State.regionsCheck_sound h5
    records := fun n r e => StationRecord.check_sound (State.allRecords_get h6 e)
    route := State.routeCheck_sound h7
    holds := State.holdCheck_sound h8
    stage := State.stageCheck_sound h9
    retiring := fun n e => by
      have := (List.all_eq_true.mp h10) n (List.mem_finRange n)
      simpa [e] using this
    link := State.linkCheck_sound h11
    host := State.hostCheck_sound h12
    memory := h13 }

end Sys2Proof.Machine
end

