-- ==== Sys2Proof/Laws/State.lean ====
section
/-! SUPPORT. One lemma for each field and each plain update of the state, so that no later proof unfolds a record update. -/

namespace Sys2Proof.Machine

variable (s : State)

/-! ## setRecord -/

@[simp] theorem State.setRecord_stations (n : StationNo) (r : Option StationRecord) : (s.setRecord n r).stations = s.stations.set n r := rfl
@[simp] theorem State.setRecord_noticeList (n : StationNo) (r : Option StationRecord) : (s.setRecord n r).noticeList = s.noticeList := rfl
@[simp] theorem State.setRecord_talkSeat (n : StationNo) (r : Option StationRecord) : (s.setRecord n r).talkSeat = s.talkSeat := rfl
@[simp] theorem State.setRecord_lanes (n : StationNo) (r : Option StationRecord) : (s.setRecord n r).lanes = s.lanes := rfl
@[simp] theorem State.setRecord_holds (n : StationNo) (r : Option StationRecord) : (s.setRecord n r).holds = s.holds := rfl
@[simp] theorem State.setRecord_holdTag (n : StationNo) (r : Option StationRecord) : (s.setRecord n r).holdTag = s.holdTag := rfl
@[simp] theorem State.setRecord_holdLimit (n : StationNo) (r : Option StationRecord) : (s.setRecord n r).holdLimit = s.holdLimit := rfl
@[simp] theorem State.setRecord_privateCopy (n : StationNo) (r : Option StationRecord) : (s.setRecord n r).privateCopy = s.privateCopy := rfl
@[simp] theorem State.setRecord_stage (n : StationNo) (r : Option StationRecord) : (s.setRecord n r).stage = s.stage := rfl
@[simp] theorem State.setRecord_remoteEnable (n : StationNo) (r : Option StationRecord) : (s.setRecord n r).remoteEnable = s.remoteEnable := rfl
@[simp] theorem State.setRecord_lockout (n : StationNo) (r : Option StationRecord) : (s.setRecord n r).lockout = s.lockout := rfl
@[simp] theorem State.setRecord_forced (n : StationNo) (r : Option StationRecord) : (s.setRecord n r).forced = s.forced := rfl
@[simp] theorem State.setRecord_attached (n : StationNo) (r : Option StationRecord) : (s.setRecord n r).attached = s.attached := rfl
@[simp] theorem State.setRecord_reception (n : StationNo) (r : Option StationRecord) : (s.setRecord n r).reception = s.reception := rfl
@[simp] theorem State.setRecord_replyWaiting (n : StationNo) (r : Option StationRecord) : (s.setRecord n r).replyWaiting = s.replyWaiting := rfl
@[simp] theorem State.setRecord_replySending (n : StationNo) (r : Option StationRecord) : (s.setRecord n r).replySending = s.replySending := rfl
@[simp] theorem State.setRecord_engine (n : StationNo) (r : Option StationRecord) : (s.setRecord n r).engine = s.engine := rfl
@[simp] theorem State.setRecord_result (n : StationNo) (r : Option StationRecord) : (s.setRecord n r).result = s.result := rfl
@[simp] theorem State.setRecord_params (n : StationNo) (r : Option StationRecord) : (s.setRecord n r).params = s.params := rfl
@[simp] theorem State.setRecord_paramIndex (n : StationNo) (r : Option StationRecord) : (s.setRecord n r).paramIndex = s.paramIndex := rfl
@[simp] theorem State.setRecord_dataPointer (n : StationNo) (r : Option StationRecord) : (s.setRecord n r).dataPointer = s.dataPointer := rfl
@[simp] theorem State.setRecord_irqEnable (n : StationNo) (r : Option StationRecord) : (s.setRecord n r).irqEnable = s.irqEnable := rfl
@[simp] theorem State.setRecord_device (n : StationNo) (r : Option StationRecord) : (s.setRecord n r).device = s.device := rfl
@[simp] theorem State.setRecord_faultKind (n : StationNo) (r : Option StationRecord) : (s.setRecord n r).faultKind = s.faultKind := rfl
@[simp] theorem State.setRecord_deniedStation (n : StationNo) (r : Option StationRecord) : (s.setRecord n r).deniedStation = s.deniedStation := rfl
@[simp] theorem State.setRecord_refusedAddress (n : StationNo) (r : Option StationRecord) : (s.setRecord n r).refusedAddress = s.refusedAddress := rfl
@[simp] theorem State.setRecord_memory (n : StationNo) (r : Option StationRecord) : (s.setRecord n r).memory = s.memory := rfl
@[simp] theorem State.setRecord_nrstLow (n : StationNo) (r : Option StationRecord) : (s.setRecord n r).nrstLow = s.nrstLow := rfl
@[simp] theorem State.setRecord_readData (n : StationNo) (r : Option StationRecord) : (s.setRecord n r).readData = s.readData := rfl
@[simp] theorem State.setRecord_powerOns (n : StationNo) (r : Option StationRecord) : (s.setRecord n r).powerOns = s.powerOns := rfl
@[simp] theorem State.setRecord_freeCount (n : StationNo) (r : Option StationRecord) : (s.setRecord n r).freeCount = s.freeCount := rfl
@[simp] theorem State.setRecord_pending (n : StationNo) (r : Option StationRecord) : (s.setRecord n r).pending = s.pending := rfl

/-! ## updateRecord -/

@[simp] theorem State.updateRecord_stations (n : StationNo) (f : StationRecord → StationRecord) : (s.updateRecord n f).stations = s.stations.set n ((s.record n).map f) := rfl
@[simp] theorem State.updateRecord_noticeList (n : StationNo) (f : StationRecord → StationRecord) : (s.updateRecord n f).noticeList = s.noticeList := rfl
@[simp] theorem State.updateRecord_talkSeat (n : StationNo) (f : StationRecord → StationRecord) : (s.updateRecord n f).talkSeat = s.talkSeat := rfl
@[simp] theorem State.updateRecord_lanes (n : StationNo) (f : StationRecord → StationRecord) : (s.updateRecord n f).lanes = s.lanes := rfl
@[simp] theorem State.updateRecord_holds (n : StationNo) (f : StationRecord → StationRecord) : (s.updateRecord n f).holds = s.holds := rfl
@[simp] theorem State.updateRecord_holdTag (n : StationNo) (f : StationRecord → StationRecord) : (s.updateRecord n f).holdTag = s.holdTag := rfl
@[simp] theorem State.updateRecord_holdLimit (n : StationNo) (f : StationRecord → StationRecord) : (s.updateRecord n f).holdLimit = s.holdLimit := rfl
@[simp] theorem State.updateRecord_privateCopy (n : StationNo) (f : StationRecord → StationRecord) : (s.updateRecord n f).privateCopy = s.privateCopy := rfl
@[simp] theorem State.updateRecord_stage (n : StationNo) (f : StationRecord → StationRecord) : (s.updateRecord n f).stage = s.stage := rfl
@[simp] theorem State.updateRecord_remoteEnable (n : StationNo) (f : StationRecord → StationRecord) : (s.updateRecord n f).remoteEnable = s.remoteEnable := rfl
@[simp] theorem State.updateRecord_lockout (n : StationNo) (f : StationRecord → StationRecord) : (s.updateRecord n f).lockout = s.lockout := rfl
@[simp] theorem State.updateRecord_forced (n : StationNo) (f : StationRecord → StationRecord) : (s.updateRecord n f).forced = s.forced := rfl
@[simp] theorem State.updateRecord_attached (n : StationNo) (f : StationRecord → StationRecord) : (s.updateRecord n f).attached = s.attached := rfl
@[simp] theorem State.updateRecord_reception (n : StationNo) (f : StationRecord → StationRecord) : (s.updateRecord n f).reception = s.reception := rfl
@[simp] theorem State.updateRecord_replyWaiting (n : StationNo) (f : StationRecord → StationRecord) : (s.updateRecord n f).replyWaiting = s.replyWaiting := rfl
@[simp] theorem State.updateRecord_replySending (n : StationNo) (f : StationRecord → StationRecord) : (s.updateRecord n f).replySending = s.replySending := rfl
@[simp] theorem State.updateRecord_engine (n : StationNo) (f : StationRecord → StationRecord) : (s.updateRecord n f).engine = s.engine := rfl
@[simp] theorem State.updateRecord_result (n : StationNo) (f : StationRecord → StationRecord) : (s.updateRecord n f).result = s.result := rfl
@[simp] theorem State.updateRecord_params (n : StationNo) (f : StationRecord → StationRecord) : (s.updateRecord n f).params = s.params := rfl
@[simp] theorem State.updateRecord_paramIndex (n : StationNo) (f : StationRecord → StationRecord) : (s.updateRecord n f).paramIndex = s.paramIndex := rfl
@[simp] theorem State.updateRecord_dataPointer (n : StationNo) (f : StationRecord → StationRecord) : (s.updateRecord n f).dataPointer = s.dataPointer := rfl
@[simp] theorem State.updateRecord_irqEnable (n : StationNo) (f : StationRecord → StationRecord) : (s.updateRecord n f).irqEnable = s.irqEnable := rfl
@[simp] theorem State.updateRecord_device (n : StationNo) (f : StationRecord → StationRecord) : (s.updateRecord n f).device = s.device := rfl
@[simp] theorem State.updateRecord_faultKind (n : StationNo) (f : StationRecord → StationRecord) : (s.updateRecord n f).faultKind = s.faultKind := rfl
@[simp] theorem State.updateRecord_deniedStation (n : StationNo) (f : StationRecord → StationRecord) : (s.updateRecord n f).deniedStation = s.deniedStation := rfl
@[simp] theorem State.updateRecord_refusedAddress (n : StationNo) (f : StationRecord → StationRecord) : (s.updateRecord n f).refusedAddress = s.refusedAddress := rfl
@[simp] theorem State.updateRecord_memory (n : StationNo) (f : StationRecord → StationRecord) : (s.updateRecord n f).memory = s.memory := rfl
@[simp] theorem State.updateRecord_nrstLow (n : StationNo) (f : StationRecord → StationRecord) : (s.updateRecord n f).nrstLow = s.nrstLow := rfl
@[simp] theorem State.updateRecord_readData (n : StationNo) (f : StationRecord → StationRecord) : (s.updateRecord n f).readData = s.readData := rfl
@[simp] theorem State.updateRecord_powerOns (n : StationNo) (f : StationRecord → StationRecord) : (s.updateRecord n f).powerOns = s.powerOns := rfl
@[simp] theorem State.updateRecord_freeCount (n : StationNo) (f : StationRecord → StationRecord) : (s.updateRecord n f).freeCount = s.freeCount := rfl
@[simp] theorem State.updateRecord_pending (n : StationNo) (f : StationRecord → StationRecord) : (s.updateRecord n f).pending = s.pending := rfl

/-! ## setLane -/

@[simp] theorem State.setLane_stations (i : LaneNo) (p : Option Place) : (s.setLane i p).stations = s.stations := rfl
@[simp] theorem State.setLane_noticeList (i : LaneNo) (p : Option Place) : (s.setLane i p).noticeList = s.noticeList := rfl
@[simp] theorem State.setLane_talkSeat (i : LaneNo) (p : Option Place) : (s.setLane i p).talkSeat = s.talkSeat := rfl
@[simp] theorem State.setLane_lanes (i : LaneNo) (p : Option Place) : (s.setLane i p).lanes = s.lanes.set i p := rfl
@[simp] theorem State.setLane_holds (i : LaneNo) (p : Option Place) : (s.setLane i p).holds = s.holds := rfl
@[simp] theorem State.setLane_holdTag (i : LaneNo) (p : Option Place) : (s.setLane i p).holdTag = s.holdTag := rfl
@[simp] theorem State.setLane_holdLimit (i : LaneNo) (p : Option Place) : (s.setLane i p).holdLimit = s.holdLimit := rfl
@[simp] theorem State.setLane_privateCopy (i : LaneNo) (p : Option Place) : (s.setLane i p).privateCopy = s.privateCopy := rfl
@[simp] theorem State.setLane_stage (i : LaneNo) (p : Option Place) : (s.setLane i p).stage = s.stage := rfl
@[simp] theorem State.setLane_remoteEnable (i : LaneNo) (p : Option Place) : (s.setLane i p).remoteEnable = s.remoteEnable := rfl
@[simp] theorem State.setLane_lockout (i : LaneNo) (p : Option Place) : (s.setLane i p).lockout = s.lockout := rfl
@[simp] theorem State.setLane_forced (i : LaneNo) (p : Option Place) : (s.setLane i p).forced = s.forced := rfl
@[simp] theorem State.setLane_attached (i : LaneNo) (p : Option Place) : (s.setLane i p).attached = s.attached := rfl
@[simp] theorem State.setLane_reception (i : LaneNo) (p : Option Place) : (s.setLane i p).reception = s.reception := rfl
@[simp] theorem State.setLane_replyWaiting (i : LaneNo) (p : Option Place) : (s.setLane i p).replyWaiting = s.replyWaiting := rfl
@[simp] theorem State.setLane_replySending (i : LaneNo) (p : Option Place) : (s.setLane i p).replySending = s.replySending := rfl
@[simp] theorem State.setLane_engine (i : LaneNo) (p : Option Place) : (s.setLane i p).engine = s.engine := rfl
@[simp] theorem State.setLane_result (i : LaneNo) (p : Option Place) : (s.setLane i p).result = s.result := rfl
@[simp] theorem State.setLane_params (i : LaneNo) (p : Option Place) : (s.setLane i p).params = s.params := rfl
@[simp] theorem State.setLane_paramIndex (i : LaneNo) (p : Option Place) : (s.setLane i p).paramIndex = s.paramIndex := rfl
@[simp] theorem State.setLane_dataPointer (i : LaneNo) (p : Option Place) : (s.setLane i p).dataPointer = s.dataPointer := rfl
@[simp] theorem State.setLane_irqEnable (i : LaneNo) (p : Option Place) : (s.setLane i p).irqEnable = s.irqEnable := rfl
@[simp] theorem State.setLane_device (i : LaneNo) (p : Option Place) : (s.setLane i p).device = s.device := rfl
@[simp] theorem State.setLane_faultKind (i : LaneNo) (p : Option Place) : (s.setLane i p).faultKind = s.faultKind := rfl
@[simp] theorem State.setLane_deniedStation (i : LaneNo) (p : Option Place) : (s.setLane i p).deniedStation = s.deniedStation := rfl
@[simp] theorem State.setLane_refusedAddress (i : LaneNo) (p : Option Place) : (s.setLane i p).refusedAddress = s.refusedAddress := rfl
@[simp] theorem State.setLane_memory (i : LaneNo) (p : Option Place) : (s.setLane i p).memory = s.memory := rfl
@[simp] theorem State.setLane_nrstLow (i : LaneNo) (p : Option Place) : (s.setLane i p).nrstLow = s.nrstLow := rfl
@[simp] theorem State.setLane_readData (i : LaneNo) (p : Option Place) : (s.setLane i p).readData = s.readData := rfl
@[simp] theorem State.setLane_powerOns (i : LaneNo) (p : Option Place) : (s.setLane i p).powerOns = s.powerOns := rfl
@[simp] theorem State.setLane_freeCount (i : LaneNo) (p : Option Place) : (s.setLane i p).freeCount = s.freeCount := rfl
@[simp] theorem State.setLane_pending (i : LaneNo) (p : Option Place) : (s.setLane i p).pending = s.pending := rfl

/-! ## raiseHold -/

@[simp] theorem State.raiseHold_stations (n : StationNo) (k : HoldKind) : (s.raiseHold n k).stations = s.stations := rfl
@[simp] theorem State.raiseHold_noticeList (n : StationNo) (k : HoldKind) : (s.raiseHold n k).noticeList = s.noticeList := rfl
@[simp] theorem State.raiseHold_talkSeat (n : StationNo) (k : HoldKind) : (s.raiseHold n k).talkSeat = s.talkSeat := rfl
@[simp] theorem State.raiseHold_lanes (n : StationNo) (k : HoldKind) : (s.raiseHold n k).lanes = s.lanes := rfl
@[simp] theorem State.raiseHold_holds (n : StationNo) (k : HoldKind) : (s.raiseHold n k).holds = s.holds ++ [⟨n, k, s.holdTag, s.startTimer⟩] := rfl
@[simp] theorem State.raiseHold_holdTag (n : StationNo) (k : HoldKind) : (s.raiseHold n k).holdTag = s.holdTag + 1 := rfl
@[simp] theorem State.raiseHold_holdLimit (n : StationNo) (k : HoldKind) : (s.raiseHold n k).holdLimit = s.holdLimit := rfl
@[simp] theorem State.raiseHold_privateCopy (n : StationNo) (k : HoldKind) : (s.raiseHold n k).privateCopy = s.privateCopy := rfl
@[simp] theorem State.raiseHold_stage (n : StationNo) (k : HoldKind) : (s.raiseHold n k).stage = s.stage := rfl
@[simp] theorem State.raiseHold_remoteEnable (n : StationNo) (k : HoldKind) : (s.raiseHold n k).remoteEnable = s.remoteEnable := rfl
@[simp] theorem State.raiseHold_lockout (n : StationNo) (k : HoldKind) : (s.raiseHold n k).lockout = s.lockout := rfl
@[simp] theorem State.raiseHold_forced (n : StationNo) (k : HoldKind) : (s.raiseHold n k).forced = s.forced := rfl
@[simp] theorem State.raiseHold_attached (n : StationNo) (k : HoldKind) : (s.raiseHold n k).attached = s.attached := rfl
@[simp] theorem State.raiseHold_reception (n : StationNo) (k : HoldKind) : (s.raiseHold n k).reception = s.reception := rfl
@[simp] theorem State.raiseHold_replyWaiting (n : StationNo) (k : HoldKind) : (s.raiseHold n k).replyWaiting = s.replyWaiting := rfl
@[simp] theorem State.raiseHold_replySending (n : StationNo) (k : HoldKind) : (s.raiseHold n k).replySending = s.replySending := rfl
@[simp] theorem State.raiseHold_engine (n : StationNo) (k : HoldKind) : (s.raiseHold n k).engine = s.engine := rfl
@[simp] theorem State.raiseHold_result (n : StationNo) (k : HoldKind) : (s.raiseHold n k).result = s.result := rfl
@[simp] theorem State.raiseHold_params (n : StationNo) (k : HoldKind) : (s.raiseHold n k).params = s.params := rfl
@[simp] theorem State.raiseHold_paramIndex (n : StationNo) (k : HoldKind) : (s.raiseHold n k).paramIndex = s.paramIndex := rfl
@[simp] theorem State.raiseHold_dataPointer (n : StationNo) (k : HoldKind) : (s.raiseHold n k).dataPointer = s.dataPointer := rfl
@[simp] theorem State.raiseHold_irqEnable (n : StationNo) (k : HoldKind) : (s.raiseHold n k).irqEnable = s.irqEnable := rfl
@[simp] theorem State.raiseHold_device (n : StationNo) (k : HoldKind) : (s.raiseHold n k).device = s.device := rfl
@[simp] theorem State.raiseHold_faultKind (n : StationNo) (k : HoldKind) : (s.raiseHold n k).faultKind = s.faultKind := rfl
@[simp] theorem State.raiseHold_deniedStation (n : StationNo) (k : HoldKind) : (s.raiseHold n k).deniedStation = s.deniedStation := rfl
@[simp] theorem State.raiseHold_refusedAddress (n : StationNo) (k : HoldKind) : (s.raiseHold n k).refusedAddress = s.refusedAddress := rfl
@[simp] theorem State.raiseHold_memory (n : StationNo) (k : HoldKind) : (s.raiseHold n k).memory = s.memory := rfl
@[simp] theorem State.raiseHold_nrstLow (n : StationNo) (k : HoldKind) : (s.raiseHold n k).nrstLow = s.nrstLow := rfl
@[simp] theorem State.raiseHold_readData (n : StationNo) (k : HoldKind) : (s.raiseHold n k).readData = s.readData := rfl
@[simp] theorem State.raiseHold_powerOns (n : StationNo) (k : HoldKind) : (s.raiseHold n k).powerOns = s.powerOns := rfl
@[simp] theorem State.raiseHold_freeCount (n : StationNo) (k : HoldKind) : (s.raiseHold n k).freeCount = s.freeCount := rfl
@[simp] theorem State.raiseHold_pending (n : StationNo) (k : HoldKind) : (s.raiseHold n k).pending = s.pending := rfl

/-! ## removeHold -/

@[simp] theorem State.removeHold_stations (n : StationNo) : (s.removeHold n).stations = s.stations := rfl
@[simp] theorem State.removeHold_noticeList (n : StationNo) : (s.removeHold n).noticeList = s.noticeList := rfl
@[simp] theorem State.removeHold_talkSeat (n : StationNo) : (s.removeHold n).talkSeat = s.talkSeat := rfl
@[simp] theorem State.removeHold_lanes (n : StationNo) : (s.removeHold n).lanes = s.lanes := rfl
@[simp] theorem State.removeHold_holds (n : StationNo) : (s.removeHold n).holds = s.holds.filter (fun h => decide (h.station ≠ n)) := rfl
@[simp] theorem State.removeHold_holdTag (n : StationNo) : (s.removeHold n).holdTag = s.holdTag := rfl
@[simp] theorem State.removeHold_holdLimit (n : StationNo) : (s.removeHold n).holdLimit = s.holdLimit := rfl
@[simp] theorem State.removeHold_privateCopy (n : StationNo) : (s.removeHold n).privateCopy = s.privateCopy := rfl
@[simp] theorem State.removeHold_stage (n : StationNo) : (s.removeHold n).stage = s.stage := rfl
@[simp] theorem State.removeHold_remoteEnable (n : StationNo) : (s.removeHold n).remoteEnable = s.remoteEnable := rfl
@[simp] theorem State.removeHold_lockout (n : StationNo) : (s.removeHold n).lockout = s.lockout := rfl
@[simp] theorem State.removeHold_forced (n : StationNo) : (s.removeHold n).forced = s.forced := rfl
@[simp] theorem State.removeHold_attached (n : StationNo) : (s.removeHold n).attached = s.attached := rfl
@[simp] theorem State.removeHold_reception (n : StationNo) : (s.removeHold n).reception = s.reception := rfl
@[simp] theorem State.removeHold_replyWaiting (n : StationNo) : (s.removeHold n).replyWaiting = s.replyWaiting := rfl
@[simp] theorem State.removeHold_replySending (n : StationNo) : (s.removeHold n).replySending = s.replySending := rfl
@[simp] theorem State.removeHold_engine (n : StationNo) : (s.removeHold n).engine = s.engine := rfl
@[simp] theorem State.removeHold_result (n : StationNo) : (s.removeHold n).result = s.result := rfl
@[simp] theorem State.removeHold_params (n : StationNo) : (s.removeHold n).params = s.params := rfl
@[simp] theorem State.removeHold_paramIndex (n : StationNo) : (s.removeHold n).paramIndex = s.paramIndex := rfl
@[simp] theorem State.removeHold_dataPointer (n : StationNo) : (s.removeHold n).dataPointer = s.dataPointer := rfl
@[simp] theorem State.removeHold_irqEnable (n : StationNo) : (s.removeHold n).irqEnable = s.irqEnable := rfl
@[simp] theorem State.removeHold_device (n : StationNo) : (s.removeHold n).device = s.device := rfl
@[simp] theorem State.removeHold_faultKind (n : StationNo) : (s.removeHold n).faultKind = s.faultKind := rfl
@[simp] theorem State.removeHold_deniedStation (n : StationNo) : (s.removeHold n).deniedStation = s.deniedStation := rfl
@[simp] theorem State.removeHold_refusedAddress (n : StationNo) : (s.removeHold n).refusedAddress = s.refusedAddress := rfl
@[simp] theorem State.removeHold_memory (n : StationNo) : (s.removeHold n).memory = s.memory := rfl
@[simp] theorem State.removeHold_nrstLow (n : StationNo) : (s.removeHold n).nrstLow = s.nrstLow := rfl
@[simp] theorem State.removeHold_readData (n : StationNo) : (s.removeHold n).readData = s.readData := rfl
@[simp] theorem State.removeHold_powerOns (n : StationNo) : (s.removeHold n).powerOns = s.powerOns := rfl
@[simp] theorem State.removeHold_freeCount (n : StationNo) : (s.removeHold n).freeCount = s.freeCount := rfl
@[simp] theorem State.removeHold_pending (n : StationNo) : (s.removeHold n).pending = s.pending := rfl

/-! ## emptyRoute -/

@[simp] theorem State.emptyRoute_stations : (s.emptyRoute).stations = s.stations := rfl
@[simp] theorem State.emptyRoute_noticeList : (s.emptyRoute).noticeList = s.noticeList := rfl
@[simp] theorem State.emptyRoute_talkSeat : (s.emptyRoute).talkSeat = none := rfl
@[simp] theorem State.emptyRoute_lanes : (s.emptyRoute).lanes = Vector.replicate 4 none := rfl
@[simp] theorem State.emptyRoute_holds : (s.emptyRoute).holds = s.holds := rfl
@[simp] theorem State.emptyRoute_holdTag : (s.emptyRoute).holdTag = s.holdTag := rfl
@[simp] theorem State.emptyRoute_holdLimit : (s.emptyRoute).holdLimit = s.holdLimit := rfl
@[simp] theorem State.emptyRoute_privateCopy : (s.emptyRoute).privateCopy = s.privateCopy := rfl
@[simp] theorem State.emptyRoute_stage : (s.emptyRoute).stage = s.stage := rfl
@[simp] theorem State.emptyRoute_remoteEnable : (s.emptyRoute).remoteEnable = s.remoteEnable := rfl
@[simp] theorem State.emptyRoute_lockout : (s.emptyRoute).lockout = s.lockout := rfl
@[simp] theorem State.emptyRoute_forced : (s.emptyRoute).forced = s.forced := rfl
@[simp] theorem State.emptyRoute_attached : (s.emptyRoute).attached = s.attached := rfl
@[simp] theorem State.emptyRoute_reception : (s.emptyRoute).reception = s.reception := rfl
@[simp] theorem State.emptyRoute_replyWaiting : (s.emptyRoute).replyWaiting = s.replyWaiting := rfl
@[simp] theorem State.emptyRoute_replySending : (s.emptyRoute).replySending = s.replySending := rfl
@[simp] theorem State.emptyRoute_engine : (s.emptyRoute).engine = s.engine := rfl
@[simp] theorem State.emptyRoute_result : (s.emptyRoute).result = s.result := rfl
@[simp] theorem State.emptyRoute_params : (s.emptyRoute).params = s.params := rfl
@[simp] theorem State.emptyRoute_paramIndex : (s.emptyRoute).paramIndex = s.paramIndex := rfl
@[simp] theorem State.emptyRoute_dataPointer : (s.emptyRoute).dataPointer = s.dataPointer := rfl
@[simp] theorem State.emptyRoute_irqEnable : (s.emptyRoute).irqEnable = s.irqEnable := rfl
@[simp] theorem State.emptyRoute_device : (s.emptyRoute).device = s.device := rfl
@[simp] theorem State.emptyRoute_faultKind : (s.emptyRoute).faultKind = s.faultKind := rfl
@[simp] theorem State.emptyRoute_deniedStation : (s.emptyRoute).deniedStation = s.deniedStation := rfl
@[simp] theorem State.emptyRoute_refusedAddress : (s.emptyRoute).refusedAddress = s.refusedAddress := rfl
@[simp] theorem State.emptyRoute_memory : (s.emptyRoute).memory = s.memory := rfl
@[simp] theorem State.emptyRoute_nrstLow : (s.emptyRoute).nrstLow = s.nrstLow := rfl
@[simp] theorem State.emptyRoute_readData : (s.emptyRoute).readData = s.readData := rfl
@[simp] theorem State.emptyRoute_powerOns : (s.emptyRoute).powerOns = s.powerOns := rfl
@[simp] theorem State.emptyRoute_freeCount : (s.emptyRoute).freeCount = s.freeCount := rfl
@[simp] theorem State.emptyRoute_pending : (s.emptyRoute).pending = s.pending := rfl

/-! ## startBit -/

@[simp] theorem State.startBit_stations : (s.startBit).stations = s.stations := rfl
@[simp] theorem State.startBit_noticeList : (s.startBit).noticeList = s.noticeList := rfl
@[simp] theorem State.startBit_talkSeat : (s.startBit).talkSeat = s.talkSeat := rfl
@[simp] theorem State.startBit_lanes : (s.startBit).lanes = s.lanes := rfl
@[simp] theorem State.startBit_holds : (s.startBit).holds = s.holds := rfl
@[simp] theorem State.startBit_holdTag : (s.startBit).holdTag = s.holdTag := rfl
@[simp] theorem State.startBit_holdLimit : (s.startBit).holdLimit = s.holdLimit := rfl
@[simp] theorem State.startBit_privateCopy : (s.startBit).privateCopy = s.privateCopy := rfl
@[simp] theorem State.startBit_stage : (s.startBit).stage = s.stage := rfl
@[simp] theorem State.startBit_remoteEnable : (s.startBit).remoteEnable = s.remoteEnable := rfl
@[simp] theorem State.startBit_lockout : (s.startBit).lockout = s.lockout := rfl
@[simp] theorem State.startBit_forced : (s.startBit).forced = s.forced := rfl
@[simp] theorem State.startBit_attached : (s.startBit).attached = s.attached := rfl
@[simp] theorem State.startBit_reception : (s.startBit).reception = .receiving s.lbusy := rfl
@[simp] theorem State.startBit_replyWaiting : (s.startBit).replyWaiting = none := rfl
@[simp] theorem State.startBit_replySending : (s.startBit).replySending = s.replySending := rfl
@[simp] theorem State.startBit_engine : (s.startBit).engine = s.engine := rfl
@[simp] theorem State.startBit_result : (s.startBit).result = s.result := rfl
@[simp] theorem State.startBit_params : (s.startBit).params = s.params := rfl
@[simp] theorem State.startBit_paramIndex : (s.startBit).paramIndex = s.paramIndex := rfl
@[simp] theorem State.startBit_dataPointer : (s.startBit).dataPointer = s.dataPointer := rfl
@[simp] theorem State.startBit_irqEnable : (s.startBit).irqEnable = s.irqEnable := rfl
@[simp] theorem State.startBit_device : (s.startBit).device = s.device := rfl
@[simp] theorem State.startBit_faultKind : (s.startBit).faultKind = s.faultKind := rfl
@[simp] theorem State.startBit_deniedStation : (s.startBit).deniedStation = s.deniedStation := rfl
@[simp] theorem State.startBit_refusedAddress : (s.startBit).refusedAddress = s.refusedAddress := rfl
@[simp] theorem State.startBit_memory : (s.startBit).memory = s.memory := rfl
@[simp] theorem State.startBit_nrstLow : (s.startBit).nrstLow = s.nrstLow := rfl
@[simp] theorem State.startBit_readData : (s.startBit).readData = s.readData := rfl
@[simp] theorem State.startBit_powerOns : (s.startBit).powerOns = s.powerOns := rfl
@[simp] theorem State.startBit_freeCount : (s.startBit).freeCount = s.freeCount := rfl
@[simp] theorem State.startBit_pending : (s.startBit).pending = s.pending := rfl

/-! ## frameOver -/

@[simp] theorem State.frameOver_stations : (s.frameOver).stations = s.stations := rfl
@[simp] theorem State.frameOver_noticeList : (s.frameOver).noticeList = s.noticeList := rfl
@[simp] theorem State.frameOver_talkSeat : (s.frameOver).talkSeat = s.talkSeat := rfl
@[simp] theorem State.frameOver_lanes : (s.frameOver).lanes = s.lanes := rfl
@[simp] theorem State.frameOver_holds : (s.frameOver).holds = s.holds := rfl
@[simp] theorem State.frameOver_holdTag : (s.frameOver).holdTag = s.holdTag := rfl
@[simp] theorem State.frameOver_holdLimit : (s.frameOver).holdLimit = s.holdLimit := rfl
@[simp] theorem State.frameOver_privateCopy : (s.frameOver).privateCopy = s.privateCopy := rfl
@[simp] theorem State.frameOver_stage : (s.frameOver).stage = s.stage := rfl
@[simp] theorem State.frameOver_remoteEnable : (s.frameOver).remoteEnable = s.remoteEnable := rfl
@[simp] theorem State.frameOver_lockout : (s.frameOver).lockout = s.lockout := rfl
@[simp] theorem State.frameOver_forced : (s.frameOver).forced = s.forced := rfl
@[simp] theorem State.frameOver_attached : (s.frameOver).attached = s.attached := rfl
@[simp] theorem State.frameOver_reception : (s.frameOver).reception = .ready := rfl
@[simp] theorem State.frameOver_replyWaiting : (s.frameOver).replyWaiting = s.replyWaiting := rfl
@[simp] theorem State.frameOver_replySending : (s.frameOver).replySending = s.replySending := rfl
@[simp] theorem State.frameOver_engine : (s.frameOver).engine = s.engine := rfl
@[simp] theorem State.frameOver_result : (s.frameOver).result = s.result := rfl
@[simp] theorem State.frameOver_params : (s.frameOver).params = s.params := rfl
@[simp] theorem State.frameOver_paramIndex : (s.frameOver).paramIndex = s.paramIndex := rfl
@[simp] theorem State.frameOver_dataPointer : (s.frameOver).dataPointer = s.dataPointer := rfl
@[simp] theorem State.frameOver_irqEnable : (s.frameOver).irqEnable = s.irqEnable := rfl
@[simp] theorem State.frameOver_device : (s.frameOver).device = s.device := rfl
@[simp] theorem State.frameOver_faultKind : (s.frameOver).faultKind = s.faultKind := rfl
@[simp] theorem State.frameOver_deniedStation : (s.frameOver).deniedStation = s.deniedStation := rfl
@[simp] theorem State.frameOver_refusedAddress : (s.frameOver).refusedAddress = s.refusedAddress := rfl
@[simp] theorem State.frameOver_memory : (s.frameOver).memory = s.memory := rfl
@[simp] theorem State.frameOver_nrstLow : (s.frameOver).nrstLow = s.nrstLow := rfl
@[simp] theorem State.frameOver_readData : (s.frameOver).readData = s.readData := rfl
@[simp] theorem State.frameOver_powerOns : (s.frameOver).powerOns = s.powerOns := rfl
@[simp] theorem State.frameOver_freeCount : (s.frameOver).freeCount = s.freeCount := rfl
@[simp] theorem State.frameOver_pending : (s.frameOver).pending = s.pending := rfl

/-! ## accept -/

@[simp] theorem State.accept_stations (code : Byte) : (s.accept code).stations = s.stations := rfl
@[simp] theorem State.accept_noticeList (code : Byte) : (s.accept code).noticeList = s.noticeList := rfl
@[simp] theorem State.accept_talkSeat (code : Byte) : (s.accept code).talkSeat = s.talkSeat := rfl
@[simp] theorem State.accept_lanes (code : Byte) : (s.accept code).lanes = s.lanes := rfl
@[simp] theorem State.accept_holds (code : Byte) : (s.accept code).holds = s.holds := rfl
@[simp] theorem State.accept_holdTag (code : Byte) : (s.accept code).holdTag = s.holdTag := rfl
@[simp] theorem State.accept_holdLimit (code : Byte) : (s.accept code).holdLimit = s.holdLimit := rfl
@[simp] theorem State.accept_privateCopy (code : Byte) : (s.accept code).privateCopy = s.privateCopy := rfl
@[simp] theorem State.accept_stage (code : Byte) : (s.accept code).stage = s.stage := rfl
@[simp] theorem State.accept_remoteEnable (code : Byte) : (s.accept code).remoteEnable = s.remoteEnable := rfl
@[simp] theorem State.accept_lockout (code : Byte) : (s.accept code).lockout = s.lockout := rfl
@[simp] theorem State.accept_forced (code : Byte) : (s.accept code).forced = s.forced := rfl
@[simp] theorem State.accept_attached (code : Byte) : (s.accept code).attached = s.attached := rfl
@[simp] theorem State.accept_reception (code : Byte) : (s.accept code).reception = s.reception := rfl
@[simp] theorem State.accept_replyWaiting (code : Byte) : (s.accept code).replyWaiting = s.replyWaiting := rfl
@[simp] theorem State.accept_replySending (code : Byte) : (s.accept code).replySending = s.replySending := rfl
@[simp] theorem State.accept_engine (code : Byte) : (s.accept code).engine = .busy code s.params := rfl
@[simp] theorem State.accept_result (code : Byte) : (s.accept code).result = .noneYet := rfl
@[simp] theorem State.accept_params (code : Byte) : (s.accept code).params = s.params := rfl
@[simp] theorem State.accept_paramIndex (code : Byte) : (s.accept code).paramIndex = s.paramIndex := rfl
@[simp] theorem State.accept_dataPointer (code : Byte) : (s.accept code).dataPointer = s.dataPointer := rfl
@[simp] theorem State.accept_irqEnable (code : Byte) : (s.accept code).irqEnable = s.irqEnable := rfl
@[simp] theorem State.accept_device (code : Byte) : (s.accept code).device = s.device := rfl
@[simp] theorem State.accept_faultKind (code : Byte) : (s.accept code).faultKind = s.faultKind := rfl
@[simp] theorem State.accept_deniedStation (code : Byte) : (s.accept code).deniedStation = s.deniedStation := rfl
@[simp] theorem State.accept_refusedAddress (code : Byte) : (s.accept code).refusedAddress = s.refusedAddress := rfl
@[simp] theorem State.accept_memory (code : Byte) : (s.accept code).memory = s.memory := rfl
@[simp] theorem State.accept_nrstLow (code : Byte) : (s.accept code).nrstLow = s.nrstLow := rfl
@[simp] theorem State.accept_readData (code : Byte) : (s.accept code).readData = s.readData := rfl
@[simp] theorem State.accept_powerOns (code : Byte) : (s.accept code).powerOns = s.powerOns := rfl
@[simp] theorem State.accept_freeCount (code : Byte) : (s.accept code).freeCount = s.freeCount := rfl
@[simp] theorem State.accept_pending (code : Byte) : (s.accept code).pending = s.pending := rfl

/-! ## commandOverrun -/

@[simp] theorem State.commandOverrun_stations : (s.commandOverrun).stations = s.stations := rfl
@[simp] theorem State.commandOverrun_noticeList : (s.commandOverrun).noticeList = s.noticeList := rfl
@[simp] theorem State.commandOverrun_talkSeat : (s.commandOverrun).talkSeat = s.talkSeat := rfl
@[simp] theorem State.commandOverrun_lanes : (s.commandOverrun).lanes = s.lanes := rfl
@[simp] theorem State.commandOverrun_holds : (s.commandOverrun).holds = s.holds := rfl
@[simp] theorem State.commandOverrun_holdTag : (s.commandOverrun).holdTag = s.holdTag := rfl
@[simp] theorem State.commandOverrun_holdLimit : (s.commandOverrun).holdLimit = s.holdLimit := rfl
@[simp] theorem State.commandOverrun_privateCopy : (s.commandOverrun).privateCopy = s.privateCopy := rfl
@[simp] theorem State.commandOverrun_stage : (s.commandOverrun).stage = s.stage := rfl
@[simp] theorem State.commandOverrun_remoteEnable : (s.commandOverrun).remoteEnable = s.remoteEnable := rfl
@[simp] theorem State.commandOverrun_lockout : (s.commandOverrun).lockout = s.lockout := rfl
@[simp] theorem State.commandOverrun_forced : (s.commandOverrun).forced = s.forced := rfl
@[simp] theorem State.commandOverrun_attached : (s.commandOverrun).attached = s.attached := rfl
@[simp] theorem State.commandOverrun_reception : (s.commandOverrun).reception = s.reception := rfl
@[simp] theorem State.commandOverrun_replyWaiting : (s.commandOverrun).replyWaiting = s.replyWaiting := rfl
@[simp] theorem State.commandOverrun_replySending : (s.commandOverrun).replySending = s.replySending := rfl
@[simp] theorem State.commandOverrun_engine : (s.commandOverrun).engine = s.engine := rfl
@[simp] theorem State.commandOverrun_result : (s.commandOverrun).result = s.result := rfl
@[simp] theorem State.commandOverrun_params : (s.commandOverrun).params = s.params := rfl
@[simp] theorem State.commandOverrun_paramIndex : (s.commandOverrun).paramIndex = s.paramIndex := rfl
@[simp] theorem State.commandOverrun_dataPointer : (s.commandOverrun).dataPointer = s.dataPointer := rfl
@[simp] theorem State.commandOverrun_irqEnable : (s.commandOverrun).irqEnable = s.irqEnable := rfl
@[simp] theorem State.commandOverrun_device : (s.commandOverrun).device = { s.device with commandOverrun := true } := rfl
@[simp] theorem State.commandOverrun_faultKind : (s.commandOverrun).faultKind = s.faultKind := rfl
@[simp] theorem State.commandOverrun_deniedStation : (s.commandOverrun).deniedStation = s.deniedStation := rfl
@[simp] theorem State.commandOverrun_refusedAddress : (s.commandOverrun).refusedAddress = s.refusedAddress := rfl
@[simp] theorem State.commandOverrun_memory : (s.commandOverrun).memory = s.memory := rfl
@[simp] theorem State.commandOverrun_nrstLow : (s.commandOverrun).nrstLow = s.nrstLow := rfl
@[simp] theorem State.commandOverrun_readData : (s.commandOverrun).readData = s.readData := rfl
@[simp] theorem State.commandOverrun_powerOns : (s.commandOverrun).powerOns = s.powerOns := rfl
@[simp] theorem State.commandOverrun_freeCount : (s.commandOverrun).freeCount = s.freeCount := rfl
@[simp] theorem State.commandOverrun_pending : (s.commandOverrun).pending = s.pending := rfl

/-! ## linkResetSeen -/

@[simp] theorem State.linkResetSeen_stations : (s.linkResetSeen).stations = s.stations := rfl
@[simp] theorem State.linkResetSeen_noticeList : (s.linkResetSeen).noticeList = s.noticeList := rfl
@[simp] theorem State.linkResetSeen_talkSeat : (s.linkResetSeen).talkSeat = s.talkSeat := rfl
@[simp] theorem State.linkResetSeen_lanes : (s.linkResetSeen).lanes = s.lanes := rfl
@[simp] theorem State.linkResetSeen_holds : (s.linkResetSeen).holds = s.holds := rfl
@[simp] theorem State.linkResetSeen_holdTag : (s.linkResetSeen).holdTag = s.holdTag := rfl
@[simp] theorem State.linkResetSeen_holdLimit : (s.linkResetSeen).holdLimit = s.holdLimit := rfl
@[simp] theorem State.linkResetSeen_privateCopy : (s.linkResetSeen).privateCopy = s.privateCopy := rfl
@[simp] theorem State.linkResetSeen_stage : (s.linkResetSeen).stage = s.stage := rfl
@[simp] theorem State.linkResetSeen_remoteEnable : (s.linkResetSeen).remoteEnable = s.remoteEnable := rfl
@[simp] theorem State.linkResetSeen_lockout : (s.linkResetSeen).lockout = s.lockout := rfl
@[simp] theorem State.linkResetSeen_forced : (s.linkResetSeen).forced = s.forced := rfl
@[simp] theorem State.linkResetSeen_attached : (s.linkResetSeen).attached = s.attached := rfl
@[simp] theorem State.linkResetSeen_reception : (s.linkResetSeen).reception = s.reception := rfl
@[simp] theorem State.linkResetSeen_replyWaiting : (s.linkResetSeen).replyWaiting = s.replyWaiting := rfl
@[simp] theorem State.linkResetSeen_replySending : (s.linkResetSeen).replySending = s.replySending := rfl
@[simp] theorem State.linkResetSeen_engine : (s.linkResetSeen).engine = s.engine := rfl
@[simp] theorem State.linkResetSeen_result : (s.linkResetSeen).result = s.result := rfl
@[simp] theorem State.linkResetSeen_params : (s.linkResetSeen).params = s.params := rfl
@[simp] theorem State.linkResetSeen_paramIndex : (s.linkResetSeen).paramIndex = s.paramIndex := rfl
@[simp] theorem State.linkResetSeen_dataPointer : (s.linkResetSeen).dataPointer = s.dataPointer := rfl
@[simp] theorem State.linkResetSeen_irqEnable : (s.linkResetSeen).irqEnable = s.irqEnable := rfl
@[simp] theorem State.linkResetSeen_device : (s.linkResetSeen).device = { s.device with linkResetSeen := true } := rfl
@[simp] theorem State.linkResetSeen_faultKind : (s.linkResetSeen).faultKind = s.faultKind := rfl
@[simp] theorem State.linkResetSeen_deniedStation : (s.linkResetSeen).deniedStation = s.deniedStation := rfl
@[simp] theorem State.linkResetSeen_refusedAddress : (s.linkResetSeen).refusedAddress = s.refusedAddress := rfl
@[simp] theorem State.linkResetSeen_memory : (s.linkResetSeen).memory = s.memory := rfl
@[simp] theorem State.linkResetSeen_nrstLow : (s.linkResetSeen).nrstLow = s.nrstLow := rfl
@[simp] theorem State.linkResetSeen_readData : (s.linkResetSeen).readData = s.readData := rfl
@[simp] theorem State.linkResetSeen_powerOns : (s.linkResetSeen).powerOns = s.powerOns := rfl
@[simp] theorem State.linkResetSeen_freeCount : (s.linkResetSeen).freeCount = s.freeCount := rfl
@[simp] theorem State.linkResetSeen_pending : (s.linkResetSeen).pending = s.pending := rfl

/-! ## advancePointer -/

@[simp] theorem State.advancePointer_stations : (s.advancePointer).stations = s.stations := rfl
@[simp] theorem State.advancePointer_noticeList : (s.advancePointer).noticeList = s.noticeList := rfl
@[simp] theorem State.advancePointer_talkSeat : (s.advancePointer).talkSeat = s.talkSeat := rfl
@[simp] theorem State.advancePointer_lanes : (s.advancePointer).lanes = s.lanes := rfl
@[simp] theorem State.advancePointer_holds : (s.advancePointer).holds = s.holds := rfl
@[simp] theorem State.advancePointer_holdTag : (s.advancePointer).holdTag = s.holdTag := rfl
@[simp] theorem State.advancePointer_holdLimit : (s.advancePointer).holdLimit = s.holdLimit := rfl
@[simp] theorem State.advancePointer_privateCopy : (s.advancePointer).privateCopy = s.privateCopy := rfl
@[simp] theorem State.advancePointer_stage : (s.advancePointer).stage = s.stage := rfl
@[simp] theorem State.advancePointer_remoteEnable : (s.advancePointer).remoteEnable = s.remoteEnable := rfl
@[simp] theorem State.advancePointer_lockout : (s.advancePointer).lockout = s.lockout := rfl
@[simp] theorem State.advancePointer_forced : (s.advancePointer).forced = s.forced := rfl
@[simp] theorem State.advancePointer_attached : (s.advancePointer).attached = s.attached := rfl
@[simp] theorem State.advancePointer_reception : (s.advancePointer).reception = s.reception := rfl
@[simp] theorem State.advancePointer_replyWaiting : (s.advancePointer).replyWaiting = s.replyWaiting := rfl
@[simp] theorem State.advancePointer_replySending : (s.advancePointer).replySending = s.replySending := rfl
@[simp] theorem State.advancePointer_engine : (s.advancePointer).engine = s.engine := rfl
@[simp] theorem State.advancePointer_result : (s.advancePointer).result = s.result := rfl
@[simp] theorem State.advancePointer_params : (s.advancePointer).params = s.params := rfl
@[simp] theorem State.advancePointer_paramIndex : (s.advancePointer).paramIndex = s.paramIndex := rfl
@[simp] theorem State.advancePointer_dataPointer : (s.advancePointer).dataPointer = s.dataPointer + 1 := rfl
@[simp] theorem State.advancePointer_irqEnable : (s.advancePointer).irqEnable = s.irqEnable := rfl
@[simp] theorem State.advancePointer_device : (s.advancePointer).device = s.device := rfl
@[simp] theorem State.advancePointer_faultKind : (s.advancePointer).faultKind = s.faultKind := rfl
@[simp] theorem State.advancePointer_deniedStation : (s.advancePointer).deniedStation = s.deniedStation := rfl
@[simp] theorem State.advancePointer_refusedAddress : (s.advancePointer).refusedAddress = s.refusedAddress := rfl
@[simp] theorem State.advancePointer_memory : (s.advancePointer).memory = s.memory := rfl
@[simp] theorem State.advancePointer_nrstLow : (s.advancePointer).nrstLow = s.nrstLow := rfl
@[simp] theorem State.advancePointer_readData : (s.advancePointer).readData = s.readData := rfl
@[simp] theorem State.advancePointer_powerOns : (s.advancePointer).powerOns = s.powerOns := rfl
@[simp] theorem State.advancePointer_freeCount : (s.advancePointer).freeCount = s.freeCount := rfl
@[simp] theorem State.advancePointer_pending : (s.advancePointer).pending = s.pending := rfl

/-! ## finish -/

@[simp] theorem CommandOutcome.finish_stations (o : CommandOutcome) : o.finish.stations = o.state.stations := rfl
@[simp] theorem CommandOutcome.finish_noticeList (o : CommandOutcome) : o.finish.noticeList = o.state.noticeList := rfl
@[simp] theorem CommandOutcome.finish_talkSeat (o : CommandOutcome) : o.finish.talkSeat = o.state.talkSeat := rfl
@[simp] theorem CommandOutcome.finish_lanes (o : CommandOutcome) : o.finish.lanes = o.state.lanes := rfl
@[simp] theorem CommandOutcome.finish_holds (o : CommandOutcome) : o.finish.holds = o.state.holds := rfl
@[simp] theorem CommandOutcome.finish_holdTag (o : CommandOutcome) : o.finish.holdTag = o.state.holdTag := rfl
@[simp] theorem CommandOutcome.finish_holdLimit (o : CommandOutcome) : o.finish.holdLimit = o.state.holdLimit := rfl
@[simp] theorem CommandOutcome.finish_privateCopy (o : CommandOutcome) : o.finish.privateCopy = o.state.privateCopy := rfl
@[simp] theorem CommandOutcome.finish_stage (o : CommandOutcome) : o.finish.stage = o.state.stage := rfl
@[simp] theorem CommandOutcome.finish_remoteEnable (o : CommandOutcome) : o.finish.remoteEnable = o.state.remoteEnable := rfl
@[simp] theorem CommandOutcome.finish_lockout (o : CommandOutcome) : o.finish.lockout = o.state.lockout := rfl
@[simp] theorem CommandOutcome.finish_forced (o : CommandOutcome) : o.finish.forced = o.state.forced := rfl
@[simp] theorem CommandOutcome.finish_attached (o : CommandOutcome) : o.finish.attached = o.state.attached := rfl
@[simp] theorem CommandOutcome.finish_reception (o : CommandOutcome) : o.finish.reception = o.state.reception := rfl
@[simp] theorem CommandOutcome.finish_replyWaiting (o : CommandOutcome) : o.finish.replyWaiting = o.state.replyWaiting := rfl
@[simp] theorem CommandOutcome.finish_replySending (o : CommandOutcome) : o.finish.replySending = o.state.replySending := rfl
@[simp] theorem CommandOutcome.finish_engine (o : CommandOutcome) : o.finish.engine = .done := rfl
@[simp] theorem CommandOutcome.finish_result (o : CommandOutcome) : o.finish.result = o.result := rfl
@[simp] theorem CommandOutcome.finish_params (o : CommandOutcome) : o.finish.params = (writeParams o.state.params o.bytes).set 31 o.detail := rfl
@[simp] theorem CommandOutcome.finish_paramIndex (o : CommandOutcome) : o.finish.paramIndex = o.state.paramIndex := rfl
@[simp] theorem CommandOutcome.finish_dataPointer (o : CommandOutcome) : o.finish.dataPointer = o.state.dataPointer := rfl
@[simp] theorem CommandOutcome.finish_irqEnable (o : CommandOutcome) : o.finish.irqEnable = o.state.irqEnable := rfl
@[simp] theorem CommandOutcome.finish_device (o : CommandOutcome) : o.finish.device = o.state.device := rfl
@[simp] theorem CommandOutcome.finish_faultKind (o : CommandOutcome) : o.finish.faultKind = o.state.faultKind := rfl
@[simp] theorem CommandOutcome.finish_deniedStation (o : CommandOutcome) : o.finish.deniedStation = o.state.deniedStation := rfl
@[simp] theorem CommandOutcome.finish_refusedAddress (o : CommandOutcome) : o.finish.refusedAddress = o.state.refusedAddress := rfl
@[simp] theorem CommandOutcome.finish_memory (o : CommandOutcome) : o.finish.memory = o.state.memory := rfl
@[simp] theorem CommandOutcome.finish_nrstLow (o : CommandOutcome) : o.finish.nrstLow = o.state.nrstLow := rfl
@[simp] theorem CommandOutcome.finish_readData (o : CommandOutcome) : o.finish.readData = o.state.readData := rfl
@[simp] theorem CommandOutcome.finish_powerOns (o : CommandOutcome) : o.finish.powerOns = o.state.powerOns := rfl
@[simp] theorem CommandOutcome.finish_freeCount (o : CommandOutcome) : o.finish.freeCount = o.state.freeCount := rfl
@[simp] theorem CommandOutcome.finish_pending (o : CommandOutcome) : o.finish.pending = o.state.pending := rfl

end Sys2Proof.Machine
end

