-- ==== Sys2Proof/Laws/Commands.lean ====
section
/-! SUPPORT. What the shape of a host command, the end of a frame and the step can do. -/

namespace Sys2Proof.Machine

/-! ## Host commands -/

/-- With the engine IDLE or DONE and NRST high, a host command is accepted and completes. -/
theorem State.issue_ready (s : State) (code : Byte) (act : ParamBlock → State → CommandOutcome)
    (hr : s.nrstLow = false) (hb : s.busyEngine = false) :
    s.issue code act = (act s.params (s.accept code)).finish := by
  unfold State.issue
  unfold State.busyEngine at hb
  cases h : s.engine <;> simp_all

/-- With a command in hand, a row of that command completes it. -/
theorem State.issue_inHand (s : State) (code : Byte) (p : ParamBlock) (act : ParamBlock → State → CommandOutcome)
    (hr : s.nrstLow = false) (he : s.engine = .busy code p) : s.issue code act = (act p s).finish := by
  simp [State.issue, hr, he]

/-- With another command in hand, the write of the code sets COMMAND_OVERRUN. -/
theorem State.issue_overrun (s : State) (code c : Byte) (p : ParamBlock) (act : ParamBlock → State → CommandOutcome)
    (hr : s.nrstLow = false) (he : s.engine = .busy c p) (hc : c ≠ code) : s.issue code act = s.commandOverrun := by
  simp [State.issue, hr, he, hc]

/-- While NRST is low a host command is lost. -/
theorem State.issue_lost (s : State) (code : Byte) (act : ParamBlock → State → CommandOutcome) (hr : s.nrstLow = true) :
    s.issue code act = s := by simp [State.issue, hr]

/-- RETIRE STATION in a mode, with the engine IDLE or DONE and NRST high. -/
theorem State.issueRetire_ready (s : State) (mode : Byte) (act : ParamBlock → State → CommandOutcome)
    (hr : s.nrstLow = false) (hb : s.busyEngine = false) :
    s.issueRetire mode act =
      (act (s.params.set 1 mode) (({ s with params := s.params.set 1 mode } : State).accept 0x13)).finish := by
  unfold State.issueRetire
  unfold State.busyEngine at hb
  cases h : s.engine <;> simp_all

/-- The life-state check on a FREE record. -/
theorem withStation_free (s : State) (n : StationNo) (accepts : LifeState → Bool) (act : StationRecord → CommandOutcome)
    (h : s.record n = none) : withStation s n accepts act = .plain s .notDefined := by
  simp [withStation, h]

/-- The life-state check on a record the command accepts. -/
theorem withStation_accepts (s : State) (n : StationNo) (accepts : LifeState → Bool) (act : StationRecord → CommandOutcome)
    (r : StationRecord) (h : s.record n = some r) (ha : accepts r.life = true) : withStation s n accepts act = act r := by
  simp [withStation, h, ha]

/-- The life-state check on a record the command does not accept. -/
theorem withStation_refuses (s : State) (n : StationNo) (accepts : LifeState → Bool) (act : StationRecord → CommandOutcome)
    (r : StationRecord) (h : s.record n = some r) (ha : accepts r.life = false) :
    withStation s n accepts act = .plain s .notOnline := by
  simp [withStation, h, ha]

/-- A station field of 0 to 31 is its station. -/
theorem stationField_val (b : Byte) (n : StationNo) (h : b.toNat = n.val) : stationField b = some n := by
  unfold stationField
  simp [h]

/-! ## Frames -/

/-- A good frame that began outside the LBUSY drive is taken at its end. -/
theorem State.frameEnds_taken (s : State) (f : ControllerFrame) (ha : s.attached = true)
    (hr : s.reception = .receiving false) : s.frameEnds (some f) = s.frameOver.takeFrame f := by
  simp [State.frameEnds, State.atRunEnd, ha, hr, State.judge, State.beganBusy]

/-- With no frame in reception, the row of a frame brings its own start bit. -/
theorem State.atRunEnd_ready (s : State) (f : State → State) (ha : s.attached = true) (hr : s.reception = .ready) :
    s.atRunEnd f = f s.startBit := by
  simp [State.atRunEnd, ha, hr]

/-- While DETACHED nothing is received. -/
theorem State.atRunEnd_detached (s : State) (f : State → State) (ha : s.attached = false) : s.atRunEnd f = s := by
  simp [State.atRunEnd, ha]

/-- Every law that a frame's judgement keeps is kept by the row of the frame. -/
theorem State.atRunEnd_cases (s : State) (f : State → State) (P : State → Prop) (h : P s) (h1 : P (f s))
    (h2 : P (f s.startBit)) : P (s.atRunEnd f) := by
  unfold State.atRunEnd
  split
  · split <;> assumption
  · exact h

/-! ## Replies -/

/-- A character takes ten bit times. -/
@[simp] theorem characterLevels_length (b : Byte) : (characterLevels b).length = 10 := by simp [characterLevels]

/-- A reply takes ten bit times for each of its bytes. -/
theorem ReplyFrame.levels_length (f : ReplyFrame) : f.levels.length = 10 * f.bytes.length := by
  unfold ReplyFrame.levels
  induction f.bytes with
  | nil => rfl
  | cons b bs ih => simp [ih]; omega

/-- While no reply is sent LTXD rests high. -/
@[simp] theorem State.ltxd_rests (s : State) (k : Nat) (h : s.replySending = none) : s.ltxd k = true := by
  simp [State.ltxd, h]

/-! ## The step -/

theorem step_nil (s : State) (h : s.pending = []) : step s = .next s := by simp [step, h]

theorem step_cons (s : State) (c : Instr) (rest : List Instr) (h : s.pending = c :: rest) :
    step s = exec c { s with pending := rest } := by simp [step, h]

end Sys2Proof.Machine
end

