-- ==== Sys2Proof/Laws/Memory.lean ====
section
/-! SUPPORT. The laws of buffer memory: a read after a write, and the canonical form that every memory operation keeps. -/

namespace Sys2Proof.Machine

/-- A read after a write finds the byte written at its address, and elsewhere what was there. -/
theorem Memory.read_write (m : Memory) (a b : Nat) (v : Byte) :
    Memory.read (Memory.write m a v) b = if b = a then some v else Memory.read m b := by
  induction m with
  | nil => simp only [Memory.write, Memory.read]
  | cons c m ih =>
    obtain ⟨x, w⟩ := c
    simp only [Memory.write]
    split
    · simp only [Memory.read]
    · split
      · next h => subst h; simp only [Memory.read]; split <;> rfl
      · next h => simp only [Memory.read, ih]; split <;> split <;> first | rfl | omega

theorem Memory.read_writeList (m : Memory) (a b : Nat) (vs : List Byte) :
    Memory.read (Memory.writeList m a vs) b =
      if a ≤ b then (match vs[b - a]? with | some v => some v | none => Memory.read m b) else Memory.read m b := by
  induction vs generalizing m a with
  | nil => simp [Memory.writeList]
  | cons v vs ih =>
    simp only [Memory.writeList]
    rw [ih]
    by_cases h : a + 1 ≤ b
    · have h1 : a ≤ b := by omega
      have h2 : b - a = (b - (a + 1)) + 1 := by omega
      have h3 : b ≠ a := by omega
      simp [h, h1, h2, Memory.read_write, h3]
    · by_cases h1 : a ≤ b
      · have h2 : b = a := by omega
        subst h2; simp [Memory.read_write]
      · have h3 : b ≠ a := by omega
        simp [h, h1, Memory.read_write, h3]

theorem Memory.wfFrom_le (m : Memory) {low low' : Nat} (h : low' ≤ low) (w : Memory.wfFrom low m = true) :
    Memory.wfFrom low' m = true := by
  cases m with
  | nil => rfl
  | cons c m =>
    simp only [Memory.wfFrom, Bool.and_eq_true, decide_eq_true_eq] at *
    exact ⟨⟨by omega, w.1.2⟩, w.2⟩

theorem Memory.wfFrom_write (m : Memory) (low a : Nat) (v : Byte) (hl : low ≤ a) (ha : a < 8192)
    (w : Memory.wfFrom low m = true) : Memory.wfFrom low (Memory.write m a v) = true := by
  induction m generalizing low with
  | nil => simp [Memory.write, Memory.wfFrom, hl, ha]
  | cons c m ih =>
    obtain ⟨x, u⟩ := c
    simp only [Memory.write]
    simp only [Memory.wfFrom, Bool.and_eq_true, decide_eq_true_eq] at w
    split
    · simp only [Memory.wfFrom, Bool.and_eq_true, decide_eq_true_eq]
      exact ⟨⟨hl, ha⟩, ⟨by omega, w.1.2⟩, w.2⟩
    · split
      · next h => subst h; simp only [Memory.wfFrom, Bool.and_eq_true, decide_eq_true_eq]; exact ⟨⟨hl, ha⟩, w.2⟩
      · simp only [Memory.wfFrom, Bool.and_eq_true, decide_eq_true_eq]
        exact ⟨⟨w.1.1, w.1.2⟩, ih _ (by omega) w.2⟩

/-- A write to an address of the memory keeps the canonical form. -/
theorem Memory.wf_write (m : Memory) (a : Nat) (v : Byte) (ha : a < 8192) (w : m.wf = true) :
    Memory.wf (Memory.write m a v) = true := Memory.wfFrom_write m 0 a v (Nat.zero_le a) ha w

/-- A store of bytes within the memory keeps the canonical form. -/
theorem Memory.wf_writeList (m : Memory) (a : Nat) (vs : List Byte) (ha : a + vs.length ≤ 8192) (w : m.wf = true) :
    Memory.wf (Memory.writeList m a vs) = true := by
  induction vs generalizing m a with
  | nil => exact w
  | cons v vs ih =>
    simp only [List.length_cons] at ha
    exact ih _ _ (by omega) (Memory.wf_write m a v (by omega) w)

/-- The memory after reset has the canonical form. -/
theorem State.reset_memory_wf : Memory.wf State.reset.memory = true := rfl

/-- The bytes a state reads follow its memory and its count of power-ons alone. -/
theorem State.readByte_congr {s t : State} (h : t.memory = s.memory) (h' : t.powerOns = s.powerOns) (a : Nat) :
    t.readByte a = s.readByte a := by
  simp [State.readByte, h, h']

/-- What is read after a store of bytes. -/
theorem State.readByte_writeList (s : State) (a b : Nat) (vs : List Byte) :
    ({ s with memory := Memory.writeList s.memory a vs } : State).readByte b =
      if a ≤ b then (match vs[b - a]? with | some v => v | none => s.readByte b) else s.readByte b := by
  simp only [State.readByte, Memory.read_writeList]
  by_cases h : a ≤ b
  · simp only [h, if_true]; cases vs[b - a]? <;> rfl
  · simp only [h, if_false]

/-- Below the lowest address of a canonical memory nothing is written. -/
theorem Memory.wfFrom_read_lt (m : Memory) (low a : Nat) (h : a < low) (w : Memory.wfFrom low m = true) :
    Memory.read m a = none := by
  induction m generalizing low with
  | nil => rfl
  | cons c m ih =>
    obtain ⟨x, v⟩ := c
    simp only [Memory.wfFrom, Bool.and_eq_true, decide_eq_true_eq] at w
    have h1 : a ≠ x := by omega
    simp only [Memory.read, h1, if_false]
    exact ih (x + 1) (by omega) w.2

end Sys2Proof.Machine
end

