-- ==== Sys2Proof/Laws/Table.lean ====
section
/-! SUPPORT. What the shared operations over the station table, the notices, the route and the holds can do. -/

namespace Sys2Proof.Machine

/-! ## Records -/

theorem State.record_setRecord (s : State) (n m : StationNo) (r : Option StationRecord) :
    (s.setRecord n r).record m = if m = n then r else s.record m := by
  show (s.stations.set n.val r)[m.val] = if m = n then r else s.stations[m.val]
  by_cases h : m = n
  · subst h; simp
  · have : n.val ≠ m.val := fun e => h (Fin.ext e.symm)
    simp [h, this]

@[simp] theorem State.record_setRecord_self (s : State) (n : StationNo) (r : Option StationRecord) :
    (s.setRecord n r).record n = r := by simp [State.record_setRecord]

theorem State.record_updateRecord (s : State) (n m : StationNo) (f : StationRecord → StationRecord) :
    (s.updateRecord n f).record m = if m = n then (s.record n).map f else s.record m := by
  simp [State.updateRecord, State.record_setRecord]

/-- A state and another with the same stations have the same records. -/
theorem State.record_congr {s t : State} (h : t.stations = s.stations) (n : StationNo) : t.record n = s.record n := by
  simp [State.record, h]

/-- Setting a record to what it is changes nothing. -/
theorem State.setRecord_record (s : State) (n : StationNo) : s.setRecord n (s.record n) = s := by
  have : s.stations.set n.val (s.record n) n.isLt = s.stations := Vector.set_getElem_self n.isLt
  simp [State.setRecord, this]

/-! ## Station by station -/

@[simp] theorem State.forStations_nil (s : State) (f : StationNo → State → State) : s.forStations [] f = s := rfl

@[simp] theorem State.forStations_cons (s : State) (n : StationNo) (ns : List StationNo) (f : StationNo → State → State) :
    s.forStations (n :: ns) f = (f n s).forStations ns f := rfl

/-- What every single change leaves alone, the whole pass leaves alone. -/
theorem State.forStations_keeps {α : Type} (g : State → α) (f : StationNo → State → State)
    (h : ∀ n s, g (f n s) = g s) (ns : List StationNo) (s : State) : g (s.forStations ns f) = g s := by
  induction ns generalizing s with
  | nil => rfl
  | cons n ns ih => rw [State.forStations_cons, ih, h]

/-- A law that every single change keeps, the whole pass keeps. -/
theorem State.forStations_invariant (P : State → Prop) (f : StationNo → State → State)
    (h : ∀ n s, P s → P (f n s)) (ns : List StationNo) (s : State) (hs : P s) : P (s.forStations ns f) := by
  induction ns generalizing s with
  | nil => exact hs
  | cons n ns ih => exact ih _ (h n s hs)

/-! ## Notices -/

theorem NoticeSet.has_add (ns : NoticeSet) (k j : NoticeKind) : (ns.add k).has j = (decide (j = k) || ns.has j) := by
  cases k <;> cases j <;> rfl

theorem NoticeSet.add_ne_none (ns : NoticeSet) (k : NoticeKind) : ns.add k ≠ NoticeSet.none := by
  cases k <;> simp [NoticeSet.add, NoticeSet.none]

theorem NoticeSet.add_has (ns : NoticeSet) (k : NoticeKind) (h : ns.has k = true) : ns.add k = ns := by
  cases ns; cases k <;> simp_all [NoticeSet.has, NoticeSet.add]

@[simp] theorem NoticeSet.isEmpty_iff (ns : NoticeSet) : ns.isEmpty = true ↔ ns = NoticeSet.none := by
  simp [NoticeSet.isEmpty]

theorem retiredNotices_ne_none (ns : NoticeSet) : retiredNotices ns ≠ NoticeSet.none := by
  simp [retiredNotices, NoticeSet.none]

/-- All that a change of notices can do: the stations and the notice list. -/
theorem State.changeNotices_frame (s : State) (n : StationNo) (f : NoticeSet → NoticeSet) :
    s.changeNotices n f = { s with stations := (s.changeNotices n f).stations, noticeList := (s.changeNotices n f).noticeList } := by
  unfold State.changeNotices
  split <;> rfl

theorem State.record_changeNotices (s : State) (n m : StationNo) (f : NoticeSet → NoticeSet) :
    (s.changeNotices n f).record m =
      if m = n then (s.record n).map (fun r => { r with notices := f r.notices }) else s.record m := by
  unfold State.changeNotices
  split
  · next h => split <;> simp_all
  · next r h =>
    show (s.setRecord n (some { r with notices := f r.notices })).record m = _
    rw [State.record_setRecord, h]
    rfl

theorem State.noticeList_changeNotices (s : State) (n : StationNo) (f : NoticeSet → NoticeSet) (r : StationRecord)
    (h : s.record n = some r) :
    (s.changeNotices n f).noticeList = if r.notices = NoticeSet.none then s.noticeList ++ [n] else s.noticeList := by
  simp [State.changeNotices, h, NoticeSet.isEmpty]

theorem State.addNotice_frame (s : State) (n : StationNo) (k : NoticeKind) :
    s.addNotice n k = { s with stations := (s.addNotice n k).stations, noticeList := (s.addNotice n k).noticeList } :=
  s.changeNotices_frame n _

theorem State.record_addNotice (s : State) (n m : StationNo) (k : NoticeKind) :
    (s.addNotice n k).record m =
      if m = n then (s.record n).map (fun r => { r with notices := r.notices.add k }) else s.record m :=
  s.record_changeNotices n m _

theorem State.noticeList_addNotice (s : State) (n : StationNo) (k : NoticeKind) (r : StationRecord)
    (h : s.record n = some r) :
    (s.addNotice n k).noticeList = if r.notices = NoticeSet.none then s.noticeList ++ [n] else s.noticeList :=
  s.noticeList_changeNotices n _ r h

/-- A change of the record that leaves the notices alone keeps the law of the notice list. -/
theorem State.noticeListLaw_updateRecord (s : State) (n : StationNo) (f : StationRecord → StationRecord)
    (hf : ∀ r, (f r).notices = r.notices) (h : ∀ m, m ∈ s.noticeList ↔ ∃ r, s.record m = some r ∧ r.notices ≠ NoticeSet.none) (m : StationNo) :
    m ∈ (s.updateRecord n f).noticeList ↔ ∃ r, (s.updateRecord n f).record m = some r ∧ r.notices ≠ NoticeSet.none := by
  rw [State.updateRecord_noticeList, h m, State.record_updateRecord]
  by_cases e : m = n
  · subst e; cases s.record m <;> simp [hf]
  · simp [e]

/-! ## Retirement -/

/-- All that becoming RETIRED can do: the stations and the notice list. -/
theorem State.becomeRetired_frame (s : State) (n : StationNo) :
    s.becomeRetired n = { s with stations := (s.becomeRetired n).stations, noticeList := (s.becomeRetired n).noticeList } := by
  unfold State.becomeRetired
  rw [State.changeNotices_frame]
  rfl

/-- All that a report of R20 can do: the stations and the notice list. -/
theorem State.reportRelease_frame (s : State) (n : StationNo) :
    State.reportRelease n s =
      { s with stations := (State.reportRelease n s).stations, noticeList := (State.reportRelease n s).noticeList } := by
  unfold State.reportRelease
  split
  · exact s.becomeRetired_frame n
  · rfl

/-! ## The route -/

theorem State.lane_setLane (s : State) (i j : LaneNo) (p : Option Place) :
    (s.setLane i p).lane j = if j = i then p else s.lane j := by
  show (s.lanes.set i.val p)[j.val] = if j = i then p else s.lanes[j.val]
  by_cases h : j = i
  · subst h; simp
  · have : i.val ≠ j.val := fun e => h (Fin.ext e.symm)
    simp [h, this]

@[simp] theorem State.lane_emptyRoute (s : State) (i : LaneNo) : s.emptyRoute.lane i = none := by
  simp [State.lane, State.emptyRoute, Vector.get]

theorem State.place_freePlaces (s : State) (n : StationNo) (i : Option LaneNo) :
    (s.freePlaces n).place i = vacate (s.place i) n := by
  cases i with
  | none => rfl
  | some l =>
    have h : ∀ j, ({ s with talkSeat := vacate s.talkSeat n } : State).lane j = s.lane j := fun _ => rfl
    fin_cases l <;> simp [State.place, State.freePlaces, laneNumbers, State.lane_setLane, h]

/-- All that freeing a station's places can do: the talk seat and the lanes. -/
theorem State.freePlaces_frame (s : State) (n : StationNo) :
    s.freePlaces n = { s with talkSeat := (s.freePlaces n).talkSeat, lanes := (s.freePlaces n).lanes } := rfl

/-- All that the remote transition can do: the stations and the notice list. -/
theorem State.remoteTransition_frame (s : State) (n : StationNo) :
    s.remoteTransition n = { s with stations := (s.remoteTransition n).stations, noticeList := (s.remoteTransition n).noticeList } := by
  unfold State.remoteTransition
  split
  · rfl
  · split
    · rfl
    · split <;> first | rfl | (rw [State.addNotice_frame]; rfl)

/-- All that the clear effects can do: the stations and the notice list. -/
theorem State.clearStation_frame (s : State) (n : StationNo) :
    s.clearStation n = { s with stations := (s.clearStation n).stations, noticeList := (s.clearStation n).noticeList } := by
  unfold State.clearStation
  rw [State.addNotice_frame]
  rfl

/-! ## Holds -/

theorem State.pendingHold_removeHold (s : State) (n : StationNo) : (s.removeHold n).pendingHold n = none := by
  simp [State.pendingHold]

theorem State.pendingHold_some (s : State) (n : StationNo) (h : Hold) (e : s.pendingHold n = some h) :
    h ∈ s.holds ∧ h.station = n := by
  refine ⟨List.mem_of_find?_eq_some e, ?_⟩
  simpa using List.find?_some e

/-- All that a verdict on a hold can do: the stations, the notice list and the route. -/
theorem State.applyVerdict_frame (s : State) (h : Hold) (accept : Bool) :
    s.applyVerdict h accept =
      { s with
        stations := (s.applyVerdict h accept).stations
        noticeList := (s.applyVerdict h accept).noticeList
        talkSeat := (s.applyVerdict h accept).talkSeat
        lanes := (s.applyVerdict h accept).lanes } := by
  unfold State.applyVerdict
  split
  · split
    · unfold State.acceptPort
      dsimp only
      split
      · rw [State.remoteTransition_frame]; rfl
      · rfl
    · rfl
  · split
    · rw [State.clearStation_frame]
    · rfl
  · split
    · rw [State.addNotice_frame]
    · rfl
  · rfl
  · rfl

end Sys2Proof.Machine
end

