-- ==== Sys2Proof/Tests/Slice0.lean ====
section
/-! SUPPORT. Tests of the model on the specification's own values, the refusals of `wellFormed`, and a witness for the hypotheses of every
statement. -/

namespace Sys2Proof.Tests

-- One theorem after the other: each thread of its own would take a stack.
set_option Elab.async false

open Sys2Proof.Machine Sys2Proof.Claims

/-! ## Ill-formed commands -/

theorem test_ill_formed_route_count :
    Instr.wellFormed (.route ⟨5, 0⟩ (List.replicate 9 ⟨6, 0⟩)) = false := by decide
theorem test_ill_formed_route_address : Instr.wellFormed (.route ⟨0x85, 0⟩ []) = false := by decide
theorem test_well_formed_route_after_end : Instr.wellFormed (.route ⟨5, 0⟩ [⟨127, 0x70⟩, ⟨0x85, 1⟩]) = true := by decide
theorem test_ill_formed_data_empty : Instr.wellFormed (.data false []) = false := by decide
theorem test_ill_formed_data_long : Instr.wellFormed (.data true (List.replicate 33 0)) = false := by decide
theorem test_ill_formed_poll : Instr.wellFormed (.poll ⟨5, 0x03⟩) = false := by decide
theorem test_ill_formed_private : Instr.wellFormed (.privateFrame 0 (List.replicate 13 0)) = false := by decide
theorem test_ill_formed_responder : Instr.wellFormed (.responderFrame true (List.replicate 41 0)) = false := by decide
theorem test_ill_formed_run : Instr.wellFormed (.frameDiscarded (.afterIdle [])) = false := by decide
theorem test_ill_formed_unknown : Instr.wellFormed (.unknownCommand 0x13) = false := by decide
theorem test_ill_formed_register : Instr.wellFormed (.registerWrite 0x6 0) = false := by decide

/-! ## Small states -/

/-- The state a command leaves. -/
def after (c : Instr) (s : State) : State :=
  match exec c s with
  | .next t => t
  | _ => s

/-- A parameter block with these first bytes. -/
def block (bs : List Byte) : ParamBlock := Vector.ofFn (fun i => bs.getD i.val 0)

/-- The state with these first parameter bytes. -/
def State.with (s : State) (bs : List Byte) : State := { s with params := block bs }

/-- A listener and talker on unit 5: one inbound page at 0, three outbound pages at 10. -/
def plain : StationRecord where
  life := .online
  unit := 5
  width := .exact
  policy := .noPort
  acceptedPort := none
  mayTalk := true
  mayListen := true
  inRegion := some ⟨0, 1⟩
  outRegion := some ⟨10, 3⟩
  options := ⟨false, false, false, false⟩
  triggerLine := none
  lastMatched := none
  status := 0
  request := .quiet
  mode := .unlockedLocal
  inbound := .empty
  outbound := .empty
  notices := NoticeSet.none

/-- An ATTACHED card with station 3 on that record and a frame in reception. -/
def card (r : StationRecord) : State :=
  { State.reset with attached := true, reception := .receiving false, stations := State.reset.stations.set 3 (some r) }

/-- That card with station 3 in lane 0. -/
def seated (r : StationRecord) (tentative : Bool) : State :=
  { card r with lanes := State.reset.lanes.set 0 (some ⟨3, tentative⟩) }

/-- That card with station 3 in the talk seat. -/
def talking (r : StationRecord) : State := { card r with talkSeat := some ⟨3, false⟩ }

/-- A card whose station 3, in lane 0 with its region COMPLETE, is owed a staged frame with one millisecond left. -/
def staged (r : StationRecord) : State :=
  { seated { r with inbound := .complete 32 true } false with
    reception := .ready
    stage := some ⟨[7, 8], true, [3], some 1⟩ }

/-- A card whose station 3 has a pending hold with tag 9 and one millisecond left. -/
def held (k : HoldKind) (r : StationRecord) (tentative : Bool) : State :=
  { seated r tentative with reception := .ready, holds := [⟨3, k, 9, some 1⟩] }

/-- The open-port station. -/
def openPort : StationRecord := { plain with policy := .openPort }

/-! ## The specification's values -/

/-- The frames worked out in section 2.2, and the STATUS frames of section 8.2. -/
theorem test_check_values : frameBytes 0x30 [] = [0x30, 0x00, 0xF9] ∧ frameBytes 0x21 [] = [0x21, 0x00, 0xBB] ∧
    (ReplyFrame.status true 5).bytes = [0x48, 0x01, 0x85, 0x50] ∧ (ReplyFrame.status false 5).bytes = [0x48, 0x01, 0x05, 0xD9] := by
  decide +kernel
theorem test_unknown_type : (after (.frameDiscarded (.afterIdle (chars (frameBytes 0x11 [])))) (card plain)).faultKind = some .unknownType := by
  decide +kernel
theorem test_bad_check : (after (.frameDiscarded (.afterIdle (chars [0x30, 0x00, 0x00]))) (card plain)).faultKind = some .damaged := by
  decide +kernel
theorem test_first_fault_kept : (after (.frameDiscarded (.afterCheck [⟨0, true⟩]))
    { card plain with device := ⟨false, true, false, false, false⟩, faultKind := some .unknownType }).faultKind = some .unknownType := by decide
theorem test_quad_top : coversUnit .quad 124 126 = true ∧ coversUnit .quad 124 127 = false ∧ coversUnit .pair 126 127 = false := by decide
theorem test_hardware_reset_limit : (after (.hardwareReset true) (card plain)).holdLimit = 20 := by decide
theorem test_nrst_release : (after .nrstRelease { State.reset with nrstLow := true }).nrstLow = false := by decide
theorem test_attach : (after .attach State.reset).result = .ok ∧ (after .attach (card plain)).result = .already := by decide
theorem test_detach_local : ((after .detach (card { plain with mode := .lockedRemote })).record 3).map (fun r => r.mode) = some .unlockedLocal := by
  decide +kernel
theorem test_route_seats : (after (.route ⟨127, 0⟩ [⟨5, 0⟩]) (card plain)).lane 0 = some ⟨3, false⟩ := by decide
theorem test_route_tentative : (after (.route ⟨5, 0x82⟩ []) (card openPort)).holds = [⟨3, .port 5 2, 0, some 20⟩] := by decide
theorem test_route_denied :
    ((after (.route ⟨127, 0⟩ [⟨5, 0⟩]) (card { plain with mayListen := false, inRegion := none })).noticeList) = [3] := by decide
theorem test_data_end : ((after (.data true [1, 2]) (seated plain false)).record 3).map (fun r => r.inbound) = some (.complete 2 false) := by decide
theorem test_data_staged : ((after (.data false [1, 2]) (seated { plain with inbound := .filling 31 } false)).stage).map (fun g => g.owed) = some [3] := by
  decide
theorem test_fetch_last : (after .fetch (talking { plain with outbound := .posted 32 true })).noticeList = [3] := by decide
theorem test_fetch_not_ready : (after .fetch (talking plain)).replyWaiting = some (.reply false true []) := by decide
theorem test_poll : (after (.poll ⟨5, 0⟩) (card { plain with request := .asking, status := 18 })).replyWaiting = some (.status true 18) := by decide
theorem test_clear : ((after (.clear .all) (card { plain with outbound := .posted 5 true })).record 3).map (fun r => r.outbound) = some .empty := by
  decide
theorem test_clear_held : (after (.clear .all) (card { plain with options := ⟨true, false, false, false⟩ })).holds.length = 1 := by decide
theorem test_trigger_line : (after .trigger (seated { plain with triggerLine := some 2 } false)).triggerLevel 2 = true := by decide
theorem test_remote_off :
    ((after (.remote false) { card { plain with mode := .lockedLocal } with remoteEnable := true, lockout := true }).noticeList) = [3] := by decide +kernel
theorem test_lockout : ((after .lockout { card plain with remoteEnable := true }).record 3).map (fun r => r.mode) = some .lockedLocal := by decide +kernel
theorem test_lockout_disabled : (after .lockout (card plain)).lockout = false := by decide
theorem test_local : ((after .localFrame { seated { plain with mode := .lockedRemote } false with remoteEnable := true, lockout := true }).record 3).map
    (fun r => r.mode) = some .lockedLocal := by decide
theorem test_reset_link : ((after .resetLink (card { plain with outbound := .sending 40 true 32 })).record 3).map (fun r => r.outbound) =
    some (.posted 40 true) := by decide +kernel
theorem test_private : (after (.privateFrame 5 [1]) (seated { plain with options := ⟨false, false, false, true⟩ } false)).privateCopy =
    some ⟨5, [1]⟩ := by decide
theorem test_responder : (after (.responderFrame true [0x85]) (card plain)).device.linkFault = false := by decide
theorem test_send_reply : (after .sendReply { card plain with replyWaiting := some (.status false 5) }).ltxen = true := by decide
theorem test_reply_sent : (after .replySent { card plain with replySending := some (.status false 5) }).ltxen = false := by decide
theorem test_hold_expiry_trigger : ((after .holdExpiry (held .trigger plain false)).record 3).map (fun r => (r.notices.holdExpired, r.notices.triggered)) =
    some (true, true) := by decide
theorem test_hold_expiry_port : (after .holdExpiry (held (.port 5 2) openPort true)).lane 0 = none := by decide
theorem test_stage_expiry : ((after .stageExpiry (staged plain)).record 3).map (fun r => r.notices.dataLost) = some true := by decide
theorem test_millisecond : (after .millisecondStep { held .trigger plain false with holds := [⟨3, .trigger, 9, some 2⟩] }).holds =
    [⟨3, .trigger, 9, some 1⟩] := by decide
theorem test_completion : (after .commandCompletion { State.reset with engine := .busy 0x58 (block [7]) }).holdLimit = 7 := by decide
theorem test_define_key_kept : (after .defineStation (State.with State.reset [255, 2, 8, 0, 0, 3, 0, 16, 16, 8, 0, 255])).params[31] = 0 := by
  decide +kernel
theorem test_define_page_end : (after .defineStation (State.with State.reset [255, 0, 70, 0, 0, 2, 250, 7, 0, 0, 0, 255])).params[31] = 8 := by
  decide +kernel
theorem test_adjust : ((after .adjustStation (State.with (card plain) [3, 1, 2])).record 3).map (fun r => r.triggerLine) = some (some 2) := by decide
theorem test_read_station : (after .readStation (State.with (card plain) [3])).params[1] = 0x31 := by decide
theorem test_retire_graceful : (after .retireStationGraceful (State.with (seated plain false) [3])).result = .pending := by decide
theorem test_retire_immediate : (after .retireStationImmediate (State.with (seated plain false) [3])).lane 0 = none := by decide
theorem test_set_status_high : (after .setStatus (State.with (card plain) [3, 128])).params[31] = 2 := by decide
theorem test_request_lreq : (after .requestService (State.with (card plain) [3, 127])).lreq = true := by decide
theorem test_withdraw : (after .withdrawRequest (State.with (card { plain with request := .answered }) [3])).params[1] = 2 := by decide
theorem test_return_locked : (after .returnToLocal (State.with (card { plain with mode := .lockedRemote }) [3])).result = .locked := by decide
theorem test_post_capacity : (after .postOutbound (State.with (card plain) [3, 97, 0, 1])).params[31] = 2 := by decide
theorem test_cancel : ((after .cancelOutbound (State.with (card { plain with outbound := .sending 40 true 32 }) [3])).record 3).map (fun r => r.outbound) =
    some (.closing 40 true 32) := by decide
theorem test_release_delivers : ((after .releaseInbound (State.with (staged plain) [3])).record 3).map (fun r => r.inbound) = some (.complete 2 false) := by
  decide
theorem test_take_frees : (after .takeNotice { card (retired plain) with noticeList := [3] }).record 3 = none := by decide
theorem test_take_empty : (after .takeNotice State.reset).params[0] = 255 := by decide
theorem test_read_hold : (after .readHold (State.with (held (.port 5 2) openPort true) [255])).params[7] = 0x82 := by decide
theorem test_answer_port : ((after .answerHold (State.with (held (.port 5 2) openPort true) [3, 9, 0])).record 3).map (fun r => r.acceptedPort) =
    some (some 2) := by decide
theorem test_answer_old_tag : (after .answerHold (State.with (held .trigger plain false) [3, 8, 0])).result = .noHold := by decide
theorem test_read_route : (after .readRoute (held (.port 5 2) openPort true)).params[1] = 0x83 := by decide
theorem test_set_limit : (after .setHoldLimit (State.with State.reset [0])).startTimer = none := by decide
theorem test_force : (after .forceTrigger (State.with State.reset [3, 1])).triggerState = 0x88 := by decide
theorem test_unknown : (after (.unknownCommand 0x77) State.reset).result = .unknownCommand := by decide
theorem test_read_result : (after .readResult { State.reset with engine := .done, result := .locked }).readData = some 0x10 := by decide
theorem test_index_write : (after (.paramIndexWrite 0xFF) State.reset).paramIndex = 31 := by decide
theorem test_data_byte_write : (after (.paramDataWrite 9) { State.reset with paramIndex := 31 }).paramIndex = 0 := by decide
theorem test_param_read : (after .paramDataRead (State.with State.reset [42])).readData = some 42 := by decide
theorem test_data_read_refused : (after .dataRead (card plain)).device.accessRefused = true := by decide
theorem test_data_write_wraps : (after (.dataWrite 9) { State.reset with dataPointer := 8191 }).dataPointer = 0 := by decide
theorem test_irq_enable : (after (.irqEnableWrite 0xF4) { State.reset with engine := .done }).nirqAsserted = true := by decide
theorem test_device_notice : (after (.deviceNoticeWrite 0x02) { card plain with device := ⟨true, true, false, false, false⟩ }).device =
    ⟨true, false, false, false, false⟩ := by decide
theorem test_pointer_high : (after (.registerWrite 0x5 0xFF) State.reset).dataPointer = 0x1F00 := by decide
theorem test_frame_start : (after .frameStart { staged plain with reception := .ready }).reception = .receiving true := by decide
/-- Characters behind the check byte leave the FETCH taken and its reply abandoned (R26, R36). -/
theorem test_trailing_run :
    let t := after (.frameDiscarded (.afterIdle (chars [0x30, 0x00, 0xF9, 0x00]))) (talking { plain with outbound := .posted 5 true })
    t.noticeList = [3] ∧ t.replyWaiting = none ∧ t.faultKind = some .damaged := by decide +kernel
/-- The first character of a STATUS on LTXD: a low start bit, 0x48 least significant bit first, a high stop bit (R25). -/
theorem test_ltxd : (List.range 10).map { card plain with replySending := some (.status true 5) }.ltxd =
    [false, false, false, false, true, false, false, true, false, true] := by decide +kernel
theorem test_idle_gap : (after .idleGap { card plain with reception := .awaitingGap }).reception = .ready := by decide

/-! ## Witnesses

One theorem for each statement that has hypotheses, named after it: concrete states and operands that meet the hypotheses of each of its clauses,
most at the ends of their ranges. -/

/-- The station is RETIRING, with the place it is given elsewhere. -/
def leaving : StationRecord := { plain with life := .retiring }

/-- A FILLING listener that passes PRIVATE frames, and holds on END. -/
def passing : StationRecord := { plain with inbound := .filling 30, options := ⟨false, false, true, true⟩ }

/-- A card whose host has these first parameter bytes. -/
def asked (bs : List Byte) (r : StationRecord) : State := State.with (seated r false) bs

/-- A card with the command engine BUSY. -/
def busy (code : Byte) (bs : List Byte) (r : StationRecord) : State :=
  { asked bs r with engine := .busy code (block bs) }

/-- A card with a frame in reception that began during the LBUSY drive. -/
def busyFrame : State := { held .trigger plain false with reception := .receiving true }

/-- A state with every record taken by a station that matches nothing another matches. -/
def full : State := { State.reset with stations := Vector.replicate 32 (some plain) }

theorem ready_of_idle {s : State} (h : s.nrstLow = false) (e : s.engine = .idle) : Ready s :=
  ⟨h, fun _ _ b => by rw [e] at b; cases b⟩

theorem inv_seated : (seated plain false).Inv := State.check_sound (by decide +kernel)
theorem inv_passing : (seated passing false).Inv := State.check_sound (by decide +kernel)
theorem inv_leaving : (seated leaving false).Inv := State.check_sound (by decide +kernel)
theorem inv_staged : (staged plain).Inv := State.check_sound (by decide +kernel)
theorem inv_held : (held .trigger plain false).Inv := State.check_sound (by decide +kernel)
theorem inv_busyFrame : busyFrame.Inv := State.check_sound (by decide +kernel)
theorem inv_open : (held (.port 5 2) openPort true).Inv := State.check_sound (by decide +kernel)
theorem inv_asked : (asked [3, 0] plain).Inv := State.check_sound (by decide +kernel)

/-- A byte that the model's test gives to the host is not part-owned. -/
theorem not_partOwned {s : State} {a : Nat} (h : s.partOwned a = false) : ¬ PartOwned s a := by
  rintro ⟨n, r, e, l, o⟩
  have k := (List.any_eq_false.mp h) n (List.mem_finRange n)
  simp only [e, Bool.not_eq_true] at k
  simp only [StationRecord.partOwns, Bool.and_eq_false_iff, decide_eq_false_iff_not, Bool.or_eq_false_iff] at k
  rcases k with k | ⟨k1, k2⟩
  · exact k l
  · rcases o with ⟨g, eg, lo, hi, c⟩ | ⟨g, eg, lo, hi, c⟩
    · rcases k1 with k1 | k1
      · have inside : regionContains r.inRegion a = true := by
          simp only [eg, regionContains, Region.contains, Region.base, Region.capacity, Bool.and_eq_true]
          exact ⟨decide_eq_true lo, decide_eq_true (by omega)⟩
        exact absurd k1 (by simp [inside])
      · cases ei : r.inbound <;> simp [ei, Inbound.isComplete] at k1
        exact c _ _ ei
    · rcases k2 with k2 | k2
      · have inside : regionContains r.outRegion a = true := by
          simp only [eg, regionContains, Region.contains, Region.base, Region.capacity, Bool.and_eq_true]
          exact ⟨decide_eq_true lo, decide_eq_true (by omega)⟩
        exact absurd k2 (by simp [inside])
      · cases eo : r.outbound <;> simp [eo, Outbound.isEmpty] at k2
        exact c eo

/-- Pages 0 of a listener with its inbound EMPTY is part-owned. -/
theorem partOwned_first (s : State) (h : s.record 3 = some plain) : PartOwned s 0 :=
  ⟨3, plain, h, by decide, Or.inl ⟨⟨0, 1⟩, rfl, by decide, by decide, fun _ _ e => nomatch e⟩⟩

theorem witness_stepTakesTheFront :
    ({ State.reset with pending := [.fetch] } : State).pending = .fetch :: [] ∧ State.reset.pending = [] := ⟨rfl, rfl⟩

theorem witness_stepKeepsTheLaws :
    State.Inv { seated plain false with pending := [.trigger] } ∧
      ∃ t, step { seated plain false with pending := [.trigger] } = .next t :=
  ⟨State.check_sound (by decide +kernel), _, rfl⟩

theorem witness_stepKeepsNoticeList : (seated plain false).noticeListLaw ∧ ∃ t, step (seated plain false) = .next t :=
  ⟨inv_seated.noticeList, _, rfl⟩

theorem witness_stepKeepsAddresses : (seated plain false).addressLaw ∧ ∃ t, step (seated plain false) = .next t :=
  ⟨inv_seated.addresses, _, rfl⟩

theorem witness_stepKeepsRegions : (seated plain false).regionLaw ∧ ∃ t, step (seated plain false) = .next t :=
  ⟨inv_seated.regions, _, rfl⟩

theorem witness_stepKeepsModes : (seated plain false).modeLaw ∧ ∃ t, step (seated plain false) = .next t :=
  ⟨inv_seated.modes, _, rfl⟩

theorem witness_lifeStatesFollowTheTable :
    (seated plain false).retiredNoticeLaw ∧ (∃ t, exec .fetch (seated plain false) = .next t) ∧
      (∀ p, Instr.fetch ≠ .hardwareReset p) :=
  ⟨inv_seated.retiredNotice, ⟨_, rfl⟩, fun _ h => nomatch h⟩

theorem witness_hostOwnedBytesKept :
    (seated plain false).Inv ∧ (∃ t, exec (.data true [1]) (seated plain false) = .next t) ∧ ¬ PartOwned (seated plain false) 32 ∧
      ¬ PartOwned (seated plain false) 8191 :=
  ⟨inv_seated, ⟨_, rfl⟩, not_partOwned (by decide +kernel), not_partOwned (by decide +kernel)⟩

theorem witness_rawFramesAreTheirRows :
    (wire (.privateFrame 0x3F (List.replicate 12 7)) = some (0xBF, List.replicate 12 7) ∧
      Instr.wellFormed (.privateFrame 0x3F (List.replicate 12 7)) = true) ∧
    ((wire (.route ⟨5, 0x80⟩ (List.replicate 8 ⟨6, 0⟩))).isSome = true ∧
      Instr.wellFormed (.route ⟨5, 0x80⟩ (List.replicate 8 ⟨6, 0⟩)) = true) := by decide +kernel

theorem witness_checkIsTheRemainder :
    (seated plain false).attached = true ∧ (seated plain false).reception = .receiving false ∧
      (List.replicate 40 (0xFF : Byte)).length ≤ 40 ∧
      (1 : Byte) + linkCheck (0x20 :: BitVec.ofNat 8 40 :: List.replicate 40 0xFF) ≠
        linkCheck (0x20 :: BitVec.ofNat 8 (List.replicate 40 (0xFF : Byte)).length :: List.replicate 40 0xFF) := by decide +kernel

theorem witness_matchTests : unitAllowed .quad 124 = true ∧ unitAllowed .pair 126 = true ∧ unitAllowed .exact 1 = true := by decide

theorem witness_hardwareReset : ∃ t, exec (.hardwareReset true) (seated plain false) = .next t := ⟨_, rfl⟩

theorem witness_nrstLow :
    ({ State.reset with nrstLow := true } : State).nrstLow = true ∧ hostRow .attach = true ∧ hostRow (.registerWrite 0xF 0) = true := by decide

theorem witness_completionIsTheRow :
    ((busy 0x13 [3, 1] plain).nrstLow = false ∧ (busy 0x13 [3, 1] plain).engine = .busy 0x13 (block [3, 1]) ∧
      rowInHand 0x13 (block [3, 1]) = some .retireStationImmediate) ∧
    (rowInHand 0x13 (block [3, 0]) = some .retireStationGraceful ∧ rowInHand 0x77 (block []) = some (.unknownCommand 0x77)) ∧
    (∀ c p, State.reset.engine ≠ .busy c p) ∧ (busy 0x13 [3, 1] plain).hostLaw ∧
    (Ready (asked [3, 1] plain) ∧ rowInHand 0x13 (asked [3, 1] plain).params = some .retireStationImmediate ∧
      ∃ u, exec (.registerWrite 0x0 0x13) (asked [3, 1] plain) = .next u) ∧
    ((busy 0x13 [32, 255] plain).engine = .busy 0x13 (block [32, 255]) ∧ 1 < (block [32, 255])[1].toNat ∧ 32 ≤ (block [32, 255])[0].toNat) ∧
    1 < (block [31, 2])[1].toNat :=
  ⟨⟨rfl, rfl, by decide⟩, by decide, (fun _ _ h => nomatch h), ⟨fun _ _ h => by cases h; exact ⟨rfl, rfl⟩, (fun h => nomatch h)⟩,
    ⟨ready_of_idle rfl rfl, by decide, _, rfl⟩, ⟨rfl, by decide, by decide⟩, by decide⟩

theorem witness_completionEndsTheCommand :
    (busy 0x20 [3, 128] plain).engine = .busy 0x20 (block [3, 128]) ∧ (after .commandCompletion (busy 0x20 [3, 128] plain)).result = .badField ∧
      (after .commandCompletion (busy 0x20 [3, 127] plain)).result = .ok := by decide +kernel

theorem witness_commandWrites :
    Ready State.reset ∧ (busy 0x20 [] plain).nrstLow = false ∧ (busy 0x20 [] plain).engine = .busy 0x20 (block []) ∧
      (0x61 : Byte) ∉ commandCodes :=
  ⟨ready_of_idle rfl rfl, rfl, rfl, by decide⟩

theorem witness_dataRead :
    (card plain).nrstLow = false ∧ PartOwned (card plain) (card plain).dataPointer.toNat ∧
      ¬ PartOwned { card plain with dataPointer := 8191 } ({ card plain with dataPointer := 8191 } : State).dataPointer.toNat :=
  ⟨rfl, partOwned_first _ rfl, not_partOwned (by decide +kernel)⟩

theorem witness_dataWrite :
    (card plain).nrstLow = false ∧ PartOwned (card plain) (card plain).dataPointer.toNat ∧
      ¬ PartOwned { card plain with dataPointer := 32 } ({ card plain with dataPointer := 32 } : State).dataPointer.toNat :=
  ⟨rfl, partOwned_first _ rfl, not_partOwned (by decide +kernel)⟩

theorem witness_registerAccesses :
    (card plain).nrstLow = false ∧ Ready (card plain) ∧ (0xF : BitVec 4) ∈ [(0x1 : BitVec 4), 0x8, 0x9, 0xB, 0xC, 0xD, 0xE, 0xF] :=
  ⟨rfl, ready_of_idle rfl rfl, by decide⟩

theorem witness_routeSeats :
    (seated leaving false).Inv ∧ InFrame (seated leaving false) ∧
      routeFrame ⟨127, 0⟩ [⟨5, 0x8F⟩] = some (.route ⟨127, none⟩ [⟨5, some 15⟩]) :=
  ⟨inv_leaving, ⟨rfl, rfl⟩, by decide⟩

theorem witness_routeRecords :
    (seated plain false).Inv ∧ InFrame (seated plain false) ∧
      routeFrame ⟨5, 0⟩ (List.replicate 8 ⟨5, 0⟩) = some (.route ⟨5, none⟩ (List.replicate 8 ⟨5, none⟩)) :=
  ⟨inv_seated, ⟨rfl, rfl⟩, by decide⟩

theorem witness_dataTaken :
    (seated passing false).Inv ∧ InFrame (seated passing false) ∧ (dataFrame false (List.replicate 32 1)).isSome = true ∧
      (dataFrame true []).isSome = true ∧ (3 : StationNo) ∈ (seated passing false).listeners ∧
      takes (seated passing false) [1, 2] 3 = true ∧ takes (seated passing false) [1, 2, 3] 3 = false :=
  ⟨inv_passing, ⟨rfl, rfl⟩, by decide, by decide, by decide, by decide, by decide⟩

theorem witness_fetchNotReady :
    InFrame (talking plain) ∧ (talking plain).talkSeat = some ⟨3, false⟩ ∧ (talking plain).record 3 = some plain ∧ plain.outbound = .empty :=
  ⟨⟨rfl, rfl⟩, rfl, rfl, rfl⟩

theorem witness_fetchSends :
    (InFrame (talking { plain with outbound := .posted 96 true }) ∧
      (talking { plain with outbound := .posted 96 true }).record 3 = some { plain with outbound := .posted 96 true } ∧
      plain.outRegion = some ⟨10, 3⟩ ∧ 0 ≤ 96) ∧
    (talking { plain with outbound := .sending 96 true 95 }).record 3 = some { plain with outbound := .sending 96 true 95 } ∧
    (talking { plain with outbound := .closing 96 true 32 }).record 3 = some { plain with outbound := .closing 96 true 32 } ∧
    (InFrame (card plain) ∧ (card plain).talkSeat = none) :=
  ⟨⟨⟨rfl, rfl⟩, rfl, rfl, by decide⟩, rfl, rfl, ⟨rfl, rfl⟩, rfl⟩

theorem witness_pollAnswers :
    (InFrame (seated plain false) ∧ (seated plain false).addressLaw ∧ decodeAddress ⟨5, 0⟩ = some ⟨5, none⟩ ∧ Online (seated plain false) 3 plain ∧
      plain.matchesPoll ⟨5, none⟩ = true) ∧
    (InFrame { State.reset with attached := true, reception := .receiving false } ∧ decodeAddress ⟨127, 0xFF⟩ = some ⟨127, none⟩ ∧
      ∀ n r, ¬ Online { State.reset with attached := true, reception := .receiving false } n r) :=
  ⟨⟨⟨rfl, rfl⟩, inv_seated.addresses, by decide, ⟨rfl, rfl⟩, by decide⟩, ⟨rfl, rfl⟩, by decide, fun n r h => by
    have := h.1
    simp [State.record, State.reset, Vector.get] at this⟩

theorem witness_clearTaken : (seated plain false).routeLaw ∧ InFrame (seated plain false) := ⟨inv_seated.route, rfl, rfl⟩

theorem witness_triggerTaken : (seated passing false).routeLaw ∧ InFrame (seated passing false) := ⟨inv_passing.route, rfl, rfl⟩

theorem witness_privateTaken : InFrame (seated passing false) ∧ (List.replicate 12 (0 : Byte)).length ≤ 12 := ⟨⟨rfl, rfl⟩, by decide⟩

theorem witness_modeFrames :
    InFrame (seated plain false) ∧ (seated plain false).remoteEnable = false ∧
      (InFrame { seated plain false with remoteEnable := true } ∧ ({ seated plain false with remoteEnable := true } : State).remoteEnable = true) ∧
      (seated plain false).routeLaw :=
  ⟨⟨rfl, rfl⟩, rfl, ⟨⟨rfl, rfl⟩, rfl⟩, inv_seated.route⟩

theorem witness_resetLinkTaken : busyFrame.Inv ∧ busyFrame.attached = true ∧ busyFrame.reception = .receiving true :=
  ⟨inv_busyFrame, rfl, rfl⟩

theorem witness_detachDone :
    ((staged plain).Inv ∧ Ready (staged plain) ∧ (staged plain).attached = true) ∧ (Ready State.reset ∧ State.reset.attached = false) :=
  ⟨⟨inv_staged, ready_of_idle rfl rfl, rfl⟩, ready_of_idle rfl rfl, rfl⟩

theorem witness_attachDone :
    (Ready State.reset ∧ State.reset.attached = false) ∧ (Ready (card plain) ∧ (card plain).attached = true) :=
  ⟨⟨ready_of_idle rfl rfl, rfl⟩, ready_of_idle rfl rfl, rfl⟩

/-- No row has this body under the type REMOTE. -/
theorem wire_no_remote_two (c : Instr) : wire c ≠ some (0x70, [2]) := by
  intro h
  cases c <;> simp [wire] at h
  case privateFrame c b =>
    have := congrArg BitVec.toNat h.1
    simp [BitVec.toNat_add] at this
    have := c.isLt
    omega
  all_goals (split at h <;> simp_all)

theorem witness_frameFaults :
    ((card plain).attached = true ∧ (card plain).reception = .receiving false ∧ (chars [0x30, 0x00]).length < 3) ∧
    ((List.replicate 40 (0 : Byte)).length ≤ 40 ∧ ¬ KindKnown 0xC0 ∧ ¬ KindKnown 0x7E) ∧
    (KindKnown 0x70 ∧ (0x70 : Byte) ≠ 0x38 ∧ (0x70 : Byte) ≠ 0x48 ∧ ∀ c : Instr, c.wellFormed = true → wire c ≠ some (0x70, [2])) ∧
    ((card plain).reception ≠ .awaitingGap ∧ [(⟨0x30, true⟩ : LinkChar)] ≠ [] ∧
      ∃ u, exec (.frameDiscarded (.afterIdle (chars (0x30 :: BitVec.ofNat 8 ([] : List Byte).length :: [] ++ [0xF9])))) (card plain) = .next u) :=
  ⟨⟨rfl, rfl, by decide⟩, ⟨by decide, by unfold KindKnown; decide, by unfold KindKnown; decide⟩,
    ⟨Or.inl (by decide), by decide, by decide, fun c _ => wire_no_remote_two c⟩, by decide, by decide, _, rfl⟩

theorem witness_framesNotTaken :
    ((card plain).attached = true ∧ (card plain).reception = .receiving false ∧ (List.replicate 40 (0 : Byte)).length ≤ 40) ∧
    (controllerFrame (.data false (List.replicate 32 0)) = true ∧ busyFrame.attached = true ∧ busyFrame.reception = .receiving true) ∧
    (State.reset.attached = false ∧ runEnd .resetLink = true) :=
  ⟨⟨rfl, rfl, by decide⟩, ⟨by decide, rfl, rfl⟩, rfl, rfl⟩

theorem witness_lineEvents :
    ((staged plain).attached = true ∧ (staged plain).reception = .ready) ∧
    ((card plain).attached = true ∧ (card plain).reception = .receiving false) ∧
    (({ card plain with reception := .awaitingGap } : State).attached = true ∧
      ({ card plain with reception := .awaitingGap } : State).reception = .awaitingGap) ∧
    (runEnd .fetch = true ∧ ∃ u, exec .frameStart (staged plain) = .next u) ∧
    (({ card plain with replyWaiting := some (.status false 127) } : State).replyWaiting = some (.status false 127) ∧
      ({ card plain with replyWaiting := some (.status false 127) } : State).replySending = none) ∧
    ((card plain).replyWaiting = none ∧ (card plain).ltxen = false) ∧
    ({ card plain with replySending := some (.status true 127) } : State).replySending = some (.status true 127) :=
  ⟨⟨rfl, rfl⟩, ⟨rfl, rfl⟩, ⟨rfl, rfl⟩, ⟨rfl, _, rfl⟩, ⟨rfl, rfl⟩, ⟨rfl, rfl⟩, rfl⟩

theorem witness_holdExpiry :
    (held .trigger plain false).Inv ∧ (held (.port 5 2) openPort true).Inv ∧
      (held .trigger plain false).holds.any (fun h => due h.remaining) = true := ⟨inv_held, inv_open, by decide⟩

theorem witness_stageExpiry :
    ((staged plain).Inv ∧ (staged plain).stage = some ⟨[7, 8], true, [3], some 1⟩) ∧
      ∀ g t, ({ staged plain with stage := some ⟨[7, 8], true, [3], some 2⟩ } : State).stage = some g → g.remaining = some t → 1 < t :=
  ⟨⟨inv_staged, rfl⟩, fun g t h e => by cases h; cases e; decide⟩

/-- The parameters of section 12.2, for the lowest-numbered FREE record. -/
def qualified : List Byte := [255, 2, 8, 0, 0, 2, 0, 16, 0, 0, 4, 0xFF]

theorem fields_pass (b : Byte) (h : b.toNat < 32 ∨ b.toNat = 255) (k : Nat) :
    fieldPasses (block [b, 2, 8, 0, 0, 2, 0, 16, 0, 0, 4, 0xFF]) k := by
  unfold fieldPasses
  split <;> simp [block]
  exact h

/-- The record of that definition with the lockout flag clear. -/
def quadListener : StationRecord :=
  { plain with unit := 8, width := .quad, mayTalk := false, inRegion := some ⟨0, 16⟩, outRegion := none
               options := ⟨false, false, true, false⟩ }

theorem qualified_described : described (State.with State.reset qualified) quadListener := by
  simp [described, State.with, block, qualified, quadListener, plain, widthNumber, State.reset]

theorem reset_regionLaw : (State.with State.reset qualified).regionLaw := by
  refine ⟨fun n r i g h => ?_, fun n m r q i j g h a e => ?_⟩ <;> simp [State.with, State.record, State.reset, Vector.get] at *

theorem witness_defineMakesStation :
    (State.with State.reset qualified).regionLaw ∧ Ready (State.with State.reset qualified) ∧
      (∀ k, fieldPasses (State.with State.reset qualified).params k) ∧ Chosen (State.with State.reset qualified) 0 ∧
      described (State.with State.reset qualified) quadListener ∧
      (∀ m, ¬ KeyConflict (State.with State.reset qualified) quadListener m) ∧
      (∀ m, ¬ RegionConflict (State.with State.reset qualified) 0 quadListener m) := by
  refine ⟨reset_regionLaw, ready_of_idle rfl rfl, fields_pass 255 (Or.inr rfl), ⟨rfl, Or.inr ⟨rfl, fun m h => ?_⟩⟩, qualified_described, ?_, ?_⟩
  · exact absurd h (by simp)
  · rintro m ⟨q, a, ⟨h, _⟩, _⟩
    simp [State.with, State.record, State.reset, Vector.get] at h
  · rintro m (⟨_, g, h, a, _, e, _⟩ | ⟨_, q, i, j, g, h, a, e, _⟩)
    · simp [quadListener] at e
    · simp [State.with, State.record, State.reset, Vector.get] at e

theorem witness_defineRefused_fields :
    FirstFailing (State.with State.reset [255, 2, 8, 0, 0, 2, 0, 65]).params 8 ∧ FirstFailing (State.with State.reset [32]).params 1 := by
  refine ⟨⟨by decide, by decide, ?_, ?_⟩, by decide, by decide, ?_, ?_⟩
  · simp [fieldPasses, State.with, block]
  · intro j h
    interval_cases j <;> simp [fieldPasses, State.with, block]
  · simp [fieldPasses, State.with, block]
  · intro j h
    interval_cases j
    simp [fieldPasses]

theorem witness_defineRefused_records :
    ((State.with (card plain) (3 :: qualified.tail)).params[0].toNat = (3 : StationNo).val ∧ (State.with (card plain) (3 :: qualified.tail)).record 3 = some plain ∧
      ∀ k, fieldPasses (State.with (card plain) (3 :: qualified.tail)).params k) ∧
    ((State.with full qualified).params[0].toNat = 255 ∧ ∀ n, (State.with full qualified).record n ≠ none) := by
  refine ⟨⟨rfl, rfl, fields_pass 3 (Or.inl (by decide))⟩, rfl, fun n h => ?_⟩
  simp [State.with, full, State.record, Vector.get] at h

/-- The card of section 12.2 whose station 0 has been defined with those bytes. -/
def once : State := State.with { State.reset with stations := State.reset.stations.set 0 (some quadListener) } qualified

theorem once_record (n : StationNo) (q : StationRecord) (h : once.record n = some q) : n = 0 ∧ q = quadListener := by
  revert n
  intro n
  fin_cases n <;> intro h <;> first | exact ⟨rfl, (Option.some.inj h).symm⟩ | exact nomatch h

/-- "If the same bytes were given again with station number 255, the definition would fail with ADDRESS_IN_USE" (section 12.2). -/
theorem witness_defineRefused_address :
    Chosen once 1 ∧ described once quadListener ∧ KeyConflict once quadListener 0 ∧ (∀ j : StationNo, j < 0 → ¬ KeyConflict once quadListener j) ∧
      (after .defineStation once).result = .addressInUse := by
  refine ⟨⟨rfl, Or.inr ⟨rfl, fun m h => ?_⟩⟩, ?_, ⟨quadListener, ⟨8, none⟩, ⟨rfl, rfl⟩, by decide, by decide⟩, fun j h => absurd h (by simp),
    by decide +kernel⟩
  · have : m = 0 := Fin.ext (Nat.lt_one_iff.mp h)
    subst this
    exact fun h => nomatch h
  · simp [described, once, State.with, block, qualified, quadListener, plain, widthNumber, State.reset]

/-- The definition of units 12 to 15 with the pages of station 0. -/
def sharing : List Byte := [255, 2, 12, 0, 0, 2, 15, 1, 0, 0, 4, 0xFF]

theorem witness_defineRefused_region :
    (State.with once sharing).regionLaw ∧ (∀ k, fieldPasses (State.with once sharing).params k) ∧ Chosen (State.with once sharing) 1 ∧
      described (State.with once sharing) { quadListener with unit := 12, inRegion := some ⟨15, 1⟩ } ∧
      (∀ j, ¬ KeyConflict (State.with once sharing) { quadListener with unit := 12, inRegion := some ⟨15, 1⟩ } j) ∧
      RegionConflict (State.with once sharing) 1 { quadListener with unit := 12, inRegion := some ⟨15, 1⟩ } 0 ∧
      (∀ j : StationNo, j < 0 → ¬ RegionConflict (State.with once sharing) 1 { quadListener with unit := 12, inRegion := some ⟨15, 1⟩ } j) := by
  refine ⟨(State.check_sound (s := State.with once sharing) (by decide +kernel)).regions, fun k => ?_, ⟨rfl, Or.inr ⟨rfl, fun m h => ?_⟩⟩, ?_, ?_,
    Or.inr ⟨by decide, quadListener, true, true, ⟨15, 1⟩, ⟨0, 16⟩, 511, rfl, by decide, rfl, rfl, by decide, by decide⟩, fun j h => absurd h (by simp)⟩
  · unfold fieldPasses
    split <;> simp [State.with, sharing, block]
  · have : m = 0 := Fin.ext (Nat.lt_one_iff.mp h)
    subst this
    exact fun h => nomatch h
  · simp [described, once, State.with, block, sharing, quadListener, plain, widthNumber, State.reset]
  · rintro j ⟨q, a, ⟨h, _⟩, e, f⟩
    obtain ⟨rfl, rfl⟩ := once_record j q h
    simp [StationRecord.matchesRoute, coversUnit, quadListener] at e f
    have e := of_decide_eq_true e.1
    have f := of_decide_eq_true f.1
    simp [MatchWidth.span] at e f
    omega

theorem witness_adjustStation :
    (Ready (asked [3, 15, 3] plain) ∧ Names (asked [3, 15, 3] plain) 3 ∧ Online (asked [3, 15, 3] plain) 3 plain ∧
      ((asked [3, 15, 3] plain).params[2].toNat < 4 ∨ (asked [3, 15, 3] plain).params[2].toNat = 255)) ∧
    (Names (asked [3, 15, 4] plain) 3 ∧ 4 ≤ (asked [3, 15, 4] plain).params[2].toNat ∧ (asked [3, 15, 4] plain).params[2].toNat ≠ 255) ∧
    (32 ≤ (asked [32] plain).params[0].toNat ∧ Names (asked [31] plain) 31 ∧ (asked [31] plain).record 31 = none ∧
      Names (asked [3] leaving) 3 ∧ (asked [3] leaving).record 3 = some leaving ∧ ¬ online leaving.life) :=
  ⟨⟨ready_of_idle rfl rfl, rfl, ⟨rfl, rfl⟩, Or.inl (by decide)⟩, ⟨rfl, by decide, by decide⟩, by decide, rfl, rfl, rfl, rfl, by unfold online; decide⟩

theorem witness_readStation :
    ((asked [3, 0] plain).Inv ∧ Ready (asked [3, 0] plain) ∧ Names (asked [3, 0] plain) 3 ∧ (asked [3, 0] plain).record 3 = some plain) ∧
    (32 ≤ (asked [32] plain).params[0].toNat ∧ Names (asked [31] plain) 31 ∧ (asked [31] plain).record 31 = none) :=
  ⟨⟨inv_asked, ready_of_idle rfl rfl, rfl, rfl⟩, by decide, rfl, rfl⟩

theorem witness_retireGraceful :
    (Ready (asked [3] plain) ∧ Names (asked [3] plain) 3 ∧ Online (asked [3] plain) 3 plain ∧ Obliged (asked [3] plain) 3) ∧
    (Names (State.with (card plain) [3]) 3 ∧ Online (State.with (card plain) [3]) 3 plain ∧ ¬ Obliged (State.with (card plain) [3]) 3) ∧
    ((asked [3] leaving).record 3 = some leaving ∧ leaving.life ≠ .online) ∧
    (Names (asked [31] plain) 31 ∧ (asked [31] plain).record 31 = none ∧ 32 ≤ (asked [32] plain).params[0].toNat) := by
  refine ⟨⟨ready_of_idle rfl rfl, rfl, ⟨rfl, rfl⟩, Or.inl ⟨some 0, ⟨3, false⟩, rfl, rfl⟩⟩, ⟨rfl, ⟨rfl, rfl⟩, ?_⟩, ⟨rfl, by decide⟩,
    rfl, rfl, by decide⟩
  rintro (⟨i, p, e, _⟩ | ⟨h, m, _⟩ | ⟨g, e, _⟩)
  · cases i with
    | none => exact nomatch e
    | some l => fin_cases l <;> exact nomatch e
  · exact nomatch m
  · exact nomatch e

theorem witness_retireImmediate :
    (Ready (asked [3] leaving) ∧ Names (asked [3] leaving) 3 ∧ (asked [3] leaving).record 3 = some leaving ∧ leaving.life ≠ .retired) ∧
    (State.record (State.with (card (retired plain)) [3]) 3 = some (retired plain) ∧ (retired plain).life = .retired) ∧
    (Names (asked [31] plain) 31 ∧ (asked [31] plain).record 31 = none ∧ 32 ≤ (asked [32] plain).params[0].toNat) :=
  ⟨⟨ready_of_idle rfl rfl, rfl, rfl, by decide⟩, ⟨rfl, rfl⟩, rfl, rfl, by decide⟩

theorem witness_setStatus :
    (Ready (asked [3, 127] plain) ∧ Names (asked [3, 127] plain) 3 ∧ Online (asked [3, 127] plain) 3 plain ∧
      (asked [3, 127] plain).params[1].toNat ≤ 127) ∧
    (Names (asked [3, 128] plain) 3 ∧ 127 < (asked [3, 128] plain).params[1].toNat) ∧
    (32 ≤ (asked [32] plain).params[0].toNat ∧ Names (asked [31] plain) 31 ∧ (asked [31] plain).record 31 = none ∧
      Names (asked [3] leaving) 3 ∧ (asked [3] leaving).record 3 = some leaving ∧ ¬ online leaving.life) :=
  ⟨⟨ready_of_idle rfl rfl, rfl, ⟨rfl, rfl⟩, by decide⟩, ⟨rfl, by decide⟩, by decide, rfl, rfl, rfl, rfl, by unfold online; decide⟩

theorem witness_requestService :
    (Ready (asked [3, 0] plain) ∧ Names (asked [3, 0] plain) 3 ∧ Online (asked [3, 0] plain) 3 plain ∧ (asked [3, 0] plain).params[1].toNat ≤ 127) ∧
    (Names (asked [3, 255] plain) 3 ∧ 127 < (asked [3, 255] plain).params[1].toNat) ∧
    (32 ≤ (asked [255] plain).params[0].toNat ∧ Names (asked [0] plain) 0 ∧ (asked [0] plain).record 0 = none ∧
      Names (asked [3] leaving) 3 ∧ (asked [3] leaving).record 3 = some leaving ∧ ¬ online leaving.life) :=
  ⟨⟨ready_of_idle rfl rfl, rfl, ⟨rfl, rfl⟩, by decide⟩, ⟨rfl, by decide⟩, by decide, rfl, rfl, rfl, rfl, by unfold online; decide⟩

/-- The hypotheses of the statements that take a station alone: WITHDRAW REQUEST, RETURN TO LOCAL and CANCEL OUTBOUND. -/
theorem witness_stationAlone :
    (Ready (asked [3] plain) ∧ Names (asked [3] plain) 3 ∧ Online (asked [3] plain) 3 plain) ∧
    (32 ≤ (asked [32] plain).params[0].toNat ∧ Names (asked [31] plain) 31 ∧ (asked [31] plain).record 31 = none ∧
      Names (asked [3] leaving) 3 ∧ (asked [3] leaving).record 3 = some leaving ∧ ¬ online leaving.life) :=
  ⟨⟨ready_of_idle rfl rfl, rfl, rfl, rfl⟩, by decide, rfl, rfl, rfl, rfl, by unfold online; decide⟩

theorem witness_withdrawRequest : Ready (asked [3] plain) ∧ Names (asked [3] plain) 3 ∧ Online (asked [3] plain) 3 plain := witness_stationAlone.1

theorem witness_returnToLocal : Ready (asked [3] plain) ∧ Names (asked [3] plain) 3 ∧ Online (asked [3] plain) 3 plain := witness_stationAlone.1

theorem witness_cancelOutbound : Ready (asked [3] plain) ∧ Names (asked [3] plain) 3 ∧ Online (asked [3] plain) 3 plain := witness_stationAlone.1

theorem witness_postOutbound :
    (Ready (asked [3, 96, 0, 1] plain) ∧ Names (asked [3, 96, 0, 1] plain) 3 ∧ postFieldsPass (asked [3, 96, 0, 1] plain) ∧
      Online (asked [3, 96, 0, 1] plain) 3 plain) ∧
    (Names (asked [3, 1, 8, 1] plain) 3 ∧ 2048 < postedField (asked [3, 1, 8, 1] plain)) ∧
    (Names (asked [3, 0, 0, 0] plain) 3 ∧ postedField (asked [3, 0, 0, 0] plain) ≤ 2048 ∧ ¬ postFieldsPass (asked [3, 0, 0, 0] plain)) ∧
    ((asked [3, 96, 0, 1] leaving).record 3 = some leaving ∧ ¬ online leaving.life ∧ postFieldsPass (asked [3, 0, 8, 0] plain)) :=
  ⟨⟨ready_of_idle rfl rfl, rfl, by unfold postFieldsPass; decide, rfl, rfl⟩, ⟨rfl, by decide⟩,
    ⟨rfl, by decide, by unfold postFieldsPass; decide⟩, rfl, by unfold online; decide, by unfold postFieldsPass; decide⟩

theorem witness_releaseInbound :
    (Ready (asked [3] { plain with inbound := .complete 32 true }) ∧ Names (asked [3] { plain with inbound := .complete 32 true }) 3 ∧
      (asked [3] { plain with inbound := .complete 32 true }).record 3 = some { plain with inbound := .complete 32 true } ∧
      ¬ Owed (asked [3] { plain with inbound := .complete 32 true }) 3) ∧
    ((State.with (staged plain) [3]).Inv ∧ Ready (State.with (staged plain) [3]) ∧ Names (State.with (staged plain) [3]) 3 ∧
      (State.with (staged plain) [3]).stage = some ⟨[7, 8], true, [3], some 1⟩) ∧
    ((asked [3] passing).record 3 = some passing ∧ passing.life ≠ .retired ∧ ∀ f c, passing.inbound ≠ .complete f c) ∧
    (Names (asked [31] plain) 31 ∧ (asked [31] plain).record 31 = none ∧ ¬ live (retired plain).life) :=
  ⟨⟨ready_of_idle rfl rfl, rfl, rfl, fun ⟨_, e, _⟩ => nomatch e⟩,
    ⟨State.check_sound (by decide +kernel), ready_of_idle rfl rfl, rfl, rfl⟩, ⟨rfl, by decide, fun _ _ h => nomatch h⟩,
    rfl, rfl, by unfold live; decide⟩

theorem witness_takeNotice :
    (Ready { card (retired plain) with noticeList := [3] } ∧ ({ card (retired plain) with noticeList := [3] } : State).noticeList = 3 :: [] ∧
      State.record { card (retired plain) with noticeList := [3] } 3 = some (retired plain)) ∧
    (Ready State.reset ∧ State.reset.noticeList = []) :=
  ⟨⟨ready_of_idle rfl rfl, rfl, rfl⟩, ready_of_idle rfl rfl, rfl⟩

theorem witness_readHold :
    ((State.with (held (.port 5 2) openPort true) [255]).Inv ∧ Ready (State.with (held (.port 5 2) openPort true) [255]) ∧
      (State.with (held (.port 5 2) openPort true) [255]).params[0].toNat = 255 ∧
      (State.with (held (.port 5 2) openPort true) [255]).holds.head? = some ⟨3, .port 5 2, 9, some 1⟩) ∧
    ((State.with (card plain) [255]).params[0].toNat = 255 ∧ (State.with (card plain) [255]).holds = []) ∧
    (Names (asked [3] plain) 3 ∧ (asked [3] plain).record 3 = some plain ∧ ¬ Held (asked [3] plain) 3) ∧
    (asked [254] plain).params[0].toNat ≠ 255 :=
  ⟨⟨State.check_sound (by decide +kernel), ready_of_idle rfl rfl, rfl, rfl⟩, ⟨rfl, rfl⟩, ⟨rfl, rfl, fun ⟨_, m, _⟩ => nomatch m⟩, by decide⟩

theorem witness_answerHold :
    ((State.with (held (.port 5 2) openPort true) [3, 9, 1]).Inv ∧ Ready (State.with (held (.port 5 2) openPort true) [3, 9, 1]) ∧
      Names (State.with (held (.port 5 2) openPort true) [3, 9, 1]) 3 ∧ Online (State.with (held (.port 5 2) openPort true) [3, 9, 1]) 3 openPort ∧
      (⟨3, .port 5 2, 9, some 1⟩ : Hold) ∈ (State.with (held (.port 5 2) openPort true) [3, 9, 1]).holds ∧
      (State.with (held (.port 5 2) openPort true) [3, 9, 1]).params[1] = 9 ∧
      (State.with (held (.port 5 2) openPort true) [3, 9, 1]).params[2].toNat ≤ 1) ∧
    (Names (asked [3, 9, 0] plain) 3 ∧ ∀ h ∈ (asked [3, 9, 0] plain).holds, h.station = 3 → h.tag ≠ (asked [3, 9, 0] plain).params[1]) ∧
    (Names (asked [3, 9, 2] plain) 3 ∧ 1 < (asked [3, 9, 2] plain).params[2].toNat) ∧
    ¬ live (retired plain).life :=
  ⟨⟨State.check_sound (by decide +kernel), ready_of_idle rfl rfl, rfl, ⟨rfl, rfl⟩, List.mem_singleton.mpr rfl, rfl, by decide⟩,
    ⟨rfl, fun _ m => nomatch m⟩, ⟨rfl, by decide⟩, by unfold live; decide⟩

/-- A card whose station 3, RETIRING, has a CLEAR hold alone. -/
def settling : State := { State.with (card leaving) [3, 9, 0] with reception := .ready, holds := [⟨3, .clear .all, 9, none⟩] }

/-- A card whose station 3, RETIRING and still seated in lane 0, has a CLEAR hold that the host refuses (R87, section 12.6). -/
def lingering : State := State.with (held (.clear .listeners) leaving false) [3, 9, 1]

theorem witness_answerRetires :
    (settling.Inv ∧ Ready settling ∧ Names settling 3 ∧ settling.record 3 = some leaving ∧ leaving.life = .retiring ∧
      (⟨3, .clear .all, 9, none⟩ : Hold) ∈ settling.holds ∧ settling.params[1] = 9 ∧ settling.params[2].toNat ≤ 1 ∧
      (seatedAt settling 3 || owedAt settling 3) = false) ∧
    (lingering.Inv ∧ Ready lingering ∧ Names lingering 3 ∧ lingering.record 3 = some leaving ∧
      (⟨3, .clear .listeners, 9, some 1⟩ : Hold) ∈ lingering.holds ∧ lingering.params[1] = 9 ∧ lingering.params[2].toNat ≤ 1 ∧
      seatedAt lingering 3 = true) :=
  ⟨⟨State.check_sound (by decide +kernel), ready_of_idle rfl rfl, rfl, rfl, rfl, List.mem_singleton.mpr rfl, rfl, by decide, by decide⟩,
    State.check_sound (by decide +kernel), ready_of_idle rfl rfl, rfl, rfl, List.mem_singleton.mpr rfl, rfl, by decide, by decide⟩

theorem witness_readRoute : Ready (seated openPort true) := ready_of_idle rfl rfl

theorem witness_limitAndForce :
    (Ready (asked [3, 1] plain) ∧ (asked [3, 1] plain).params[0].toNat = (3 : LineNo).val ∧ (asked [3, 1] plain).params[1].toNat ≤ 1) ∧
    ((asked [0, 2] plain).params[0].toNat = (0 : LineNo).val ∧ 1 < (asked [0, 2] plain).params[1].toNat) ∧
    4 ≤ (asked [4, 0] plain).params[0].toNat :=
  ⟨⟨ready_of_idle rfl rfl, rfl, by decide⟩, ⟨rfl, by decide⟩, by decide⟩

end Sys2Proof.Tests
end

/-! # What the station blocks do to the records

Every happening of the link and every command but DEFINE, RETIRE and TAKE NOTICE leaves the set of records in place and changes each of
them in a few ways only. `State.Evolves` says which; the laws of the addresses, the regions and the notices follow from it alone. -/

namespace Sys2Proof.Machine

-- One theorem after the other: each thread of its own would take a stack.
set_option Elab.async false

/-! ## How a record can change -/

/-- The record keeps its address key for good and its regions until it is RETIRED, takes the life states in the order of R6, and keeps
the agreement of RETIRED with its notice set. -/
structure StationRecord.Ages (r q : StationRecord) : Prop where
  unit : q.unit = r.unit
  width : q.width = r.width
  policy : q.policy = r.policy
  regions : q.life ≠ .retired → q.inRegion = r.inRegion ∧ q.outRegion = r.outRegion
  online : q.life = .online → r.life = .online
  live : q.life ≠ .retired → r.life ≠ .retired
  retiredNotice : (r.notices.retired = true ↔ r.life = .retired) → (q.notices.retired = true ↔ q.life = .retired)

/-- The record ages, but only from RETIRING to RETIRED: an ONLINE station stays ONLINE. -/
structure StationRecord.Evolves (r q : StationRecord) : Prop extends StationRecord.Ages r q where
  staysOnline : r.life = .online → q.life = .online

theorem StationRecord.Ages.refl (r : StationRecord) : r.Ages r := by constructor <;> simp

theorem StationRecord.Ages.trans {r q p : StationRecord} (h : r.Ages q) (g : q.Ages p) : r.Ages p where
  unit := g.unit.trans h.unit
  width := g.width.trans h.width
  policy := g.policy.trans h.policy
  regions hp := by
    obtain ⟨gi, go⟩ := g.regions hp
    obtain ⟨hi, ho⟩ := h.regions (g.live hp)
    exact ⟨gi.trans hi, go.trans ho⟩
  online hp := h.online (g.online hp)
  live hp := h.live (g.live hp)
  retiredNotice hr := g.retiredNotice (h.retiredNotice hr)

theorem StationRecord.Evolves.refl (r : StationRecord) : r.Evolves r := ⟨.refl r, id⟩

theorem StationRecord.Evolves.trans {r q p : StationRecord} (h : r.Evolves q) (g : q.Evolves p) : r.Evolves p :=
  ⟨h.toAges.trans g.toAges, fun hr => g.staysOnline (h.staysOnline hr)⟩

/-- A change of the fields that no life state, key, region or notice depends on. -/
theorem StationRecord.Evolves.of_fields {r q : StationRecord} (unit : q.unit = r.unit) (width : q.width = r.width)
    (policy : q.policy = r.policy) (inRegion : q.inRegion = r.inRegion) (outRegion : q.outRegion = r.outRegion)
    (life : q.life = r.life) (retired : q.notices.retired = r.notices.retired) : r.Evolves q :=
  ⟨⟨unit, width, policy, fun _ => ⟨inRegion, outRegion⟩, by simp [life], by simp [life], by simp [life, retired]⟩, by simp [life]⟩

/-! ## How the records of a state can change -/

/-- What stands around the station blocks: the attach state, the receiver, the command engine and NRST. -/
def State.surroundings (s : State) : Bool × Reception × Engine × ResultCode × ParamBlock × Bool :=
  (s.attached, s.reception, s.engine, s.result, s.params, s.nrstLow)

/-- Every record evolves, none appears or vanishes, and the notice list follows the notice sets (R155). -/
structure State.RecordsEvolve (s t : State) : Prop where
  records : ∀ n, Option.Rel StationRecord.Evolves (s.record n) (t.record n)
  noticeList : s.noticeListLaw → t.noticeListLaw

/-- The records evolve, and what stands around the station blocks is left alone. -/
structure State.Evolves (s t : State) : Prop extends State.RecordsEvolve s t where
  surroundings : t.surroundings = s.surroundings

theorem relEvolves_refl (o : Option StationRecord) : Option.Rel StationRecord.Evolves o o := by
  cases o with
  | none => exact .none
  | some r => exact .some (.refl r)

theorem State.RecordsEvolve.refl (s : State) : s.RecordsEvolve s := ⟨fun _ => relEvolves_refl _, id⟩

theorem State.RecordsEvolve.trans {s t u : State} (h : s.RecordsEvolve t) (g : t.RecordsEvolve u) : s.RecordsEvolve u where
  records n := by
    have hn := h.records n
    have gn := g.records n
    cases hs : s.record n <;> cases ht : t.record n <;> cases hu : u.record n <;> rw [hs, ht] at hn <;> rw [ht, hu] at gn <;>
      cases hn <;> cases gn
    · exact .none
    · next a b => exact .some (a.trans b)
  noticeList hs := g.noticeList (h.noticeList hs)

theorem State.Evolves.refl (s : State) : s.Evolves s := ⟨.refl s, rfl⟩

theorem State.Evolves.trans {s t u : State} (h : s.Evolves t) (g : t.Evolves u) : s.Evolves u :=
  ⟨h.toRecordsEvolve.trans g.toRecordsEvolve, g.surroundings.trans h.surroundings⟩

/-- The laws of the records and the notices see the stations and the notice list alone. -/
theorem State.noticeListLaw_congr {s t : State} (hs : t.stations = s.stations) (hl : t.noticeList = s.noticeList)
    (h : s.noticeListLaw) : t.noticeListLaw := by
  simpa only [State.noticeListLaw, State.record, hs, hl] using h

/-- A change of what is neither a record nor the notice list. -/
theorem State.RecordsEvolve.of_frame {s t : State} (hs : t.stations = s.stations) (hl : t.noticeList = s.noticeList) :
    s.RecordsEvolve t where
  records n := by rw [State.record_congr hs]; exact relEvolves_refl _
  noticeList := State.noticeListLaw_congr hs hl

/-- A change of what is neither a record nor the notice list nor around the station blocks. -/
theorem State.Evolves.of_frame {s t : State} (hs : t.stations = s.stations) (hl : t.noticeList = s.noticeList)
    (hp : t.surroundings = s.surroundings) : s.Evolves t := ⟨.of_frame hs hl, hp⟩

/-- What a record that stands after the change was before it. -/
theorem State.RecordsEvolve.origin {s t : State} (h : s.RecordsEvolve t) {n : StationNo} {q : StationRecord} (e : t.record n = some q) :
    ∃ r, s.record n = some r ∧ r.Evolves q := by
  have hn := h.records n
  rw [e] at hn
  cases hs : s.record n with
  | none => rw [hs] at hn; cases hn
  | some r => rw [hs] at hn; cases hn with | some g => exact ⟨r, rfl, g⟩

/-- What a record becomes. -/
theorem State.RecordsEvolve.outcome {s t : State} (h : s.RecordsEvolve t) {n : StationNo} {r : StationRecord} (e : s.record n = some r) :
    ∃ q, t.record n = some q ∧ r.Evolves q := by
  have hn := h.records n
  rw [e] at hn
  cases ht : t.record n with
  | none => rw [ht] at hn; cases hn
  | some q => rw [ht] at hn; cases hn with | some g => exact ⟨q, rfl, g⟩

theorem State.RecordsEvolve.free {s t : State} (h : s.RecordsEvolve t) {n : StationNo} (e : s.record n = none) : t.record n = none := by
  have hn := h.records n
  rw [e] at hn
  cases ht : t.record n with
  | none => rfl
  | some q => rw [ht] at hn; cases hn

/-! ## Passes over lists -/

theorem State.foldl_evolves {α : Type} (f : State → α → State) (h : ∀ (s : State) a, s.Evolves (f s a)) (as : List α) (s : State) :
    s.Evolves (as.foldl f s) := by
  induction as generalizing s with
  | nil => exact .refl s
  | cons a as ih => exact (h s a).trans (ih _)

theorem State.forStations_evolves {f : StationNo → State → State} (h : ∀ n (s : State), s.Evolves (f n s)) (ns : List StationNo)
    (s : State) : s.Evolves (s.forStations ns f) :=
  State.foldl_evolves (fun t n => f n t) (fun s n => h n s) ns s

/-! ## One record -/

/-- A change of one record that leaves its notices alone. -/
theorem State.updateRecord_evolves (s : State) (n : StationNo) (f : StationRecord → StationRecord)
    (hf : ∀ r, s.record n = some r → r.Evolves (f r)) (hn : ∀ r, (f r).notices = r.notices) : s.Evolves (s.updateRecord n f) where
  records m := by
    rw [State.record_updateRecord]
    split
    · next e =>
      subst e
      cases hs : s.record m with
      | none => exact .none
      | some r => exact .some (hf r hs)
    · exact relEvolves_refl _
  noticeList h := ⟨h.1, s.noticeListLaw_updateRecord n f hn h.2⟩
  surroundings := rfl

/-- A change of notices that leaves none of the sets empty keeps the law of the notice list: a station whose set was empty was not in
the list and joins it (R155). -/
theorem State.noticeListLaw_changeNotices (s : State) (n : StationNo) (f : NoticeSet → NoticeSet) (hf : ∀ ns, f ns ≠ NoticeSet.none)
    (h : s.noticeListLaw) : (s.changeNotices n f).noticeListLaw := by
  obtain ⟨nodup, listed⟩ := h
  cases hs : s.record n with
  | none => rw [State.changeNotices, hs]; exact ⟨nodup, listed⟩
  | some r =>
    have hl := s.noticeList_changeNotices n f r hs
    have hmem := listed n
    simp only [hs, Option.some.injEq, exists_eq_left'] at hmem
    constructor
    · rw [hl]
      split
      · next e => exact List.nodup_append.mpr ⟨nodup, List.nodup_singleton n, by
          rintro a ha b hb rfl
          rw [List.mem_singleton] at hb
          exact (hmem.mp (hb ▸ ha)) e⟩
      · exact nodup
    · intro m
      rw [hl, State.record_changeNotices]
      by_cases e : m = n
      · subst e
        simp only [if_true, hs, Option.map_some, Option.some.injEq, exists_eq_left', hf, ne_eq, not_false_eq_true, iff_true]
        split
        · simp
        · next e => exact hmem.mpr e
      · rw [if_neg e, ← listed m]
        split <;> simp [e]

/-- The surroundings are outside the reach of a change of notices. -/
theorem State.surroundings_changeNotices (s : State) (n : StationNo) (f : NoticeSet → NoticeSet) :
    (s.changeNotices n f).surroundings = s.surroundings := by
  rw [State.changeNotices_frame]; rfl

theorem NoticeSet.add_retired (ns : NoticeSet) (k : NoticeKind) (hk : k ≠ .retired) : (ns.add k).retired = ns.retired := by
  cases k <;> first | rfl | exact absurd rfl hk

/-- A notice other than RETIRED. -/
theorem State.addNotice_evolves (s : State) (n : StationNo) (k : NoticeKind) (hk : k ≠ .retired) : s.Evolves (s.addNotice n k) where
  records m := by
    rw [State.record_addNotice]
    split
    · next e =>
      subst e
      cases s.record m with
      | none => exact .none
      | some r => exact .some (.of_fields rfl rfl rfl rfl rfl rfl (NoticeSet.add_retired _ k hk))
    · exact relEvolves_refl _
  noticeList := s.noticeListLaw_changeNotices n _ fun ns => ns.add_ne_none k
  surroundings := s.surroundings_changeNotices n _

/-! ## Retirement -/

/-- The record of a station that becomes RETIRED (R23). -/
def StationRecord.retire (r : StationRecord) : StationRecord :=
  { r with
    life := .retired
    inbound := .empty
    mode := .unlockedLocal
    inRegion := none
    outRegion := none
    lastMatched := none
    acceptedPort := none
    notices := retiredNotices r.notices }

theorem StationRecord.ages_retire (r : StationRecord) : r.Ages r.retire := by
  constructor <;> simp [StationRecord.retire, retiredNotices]

theorem State.record_becomeRetired (s : State) (n m : StationNo) :
    (s.becomeRetired n).record m = if m = n then (s.record n).map StationRecord.retire else s.record m := by
  unfold State.becomeRetired
  rw [State.record_changeNotices]
  split
  · rw [State.record_updateRecord, if_pos rfl, Option.map_map]; rfl
  · next e => rw [State.record_updateRecord, if_neg e]

theorem State.noticeListLaw_becomeRetired (s : State) (n : StationNo) (h : s.noticeListLaw) : (s.becomeRetired n).noticeListLaw :=
  State.noticeListLaw_changeNotices _ n _ (fun ns => retiredNotices_ne_none ns)
    ⟨h.1, s.noticeListLaw_updateRecord n _ (fun _ => rfl) h.2⟩

theorem State.surroundings_becomeRetired (s : State) (n : StationNo) : (s.becomeRetired n).surroundings = s.surroundings :=
  State.surroundings_changeNotices _ n _

theorem State.hasLife_iff (s : State) (n : StationNo) (l : LifeState) :
    s.hasLife n l = true ↔ ∃ r, s.record n = some r ∧ r.life = l := by
  unfold State.hasLife
  cases s.record n <;> simp

/-- A RETIRING station becomes RETIRED. -/
theorem State.becomeRetired_evolves (s : State) (n : StationNo) (h : s.hasLife n .retiring = true) : s.Evolves (s.becomeRetired n) where
  records m := by
    obtain ⟨r, hr, hl⟩ := (s.hasLife_iff n .retiring).mp h
    rw [State.record_becomeRetired]
    split
    · next e =>
      subst e
      rw [hr]
      exact .some ⟨r.ages_retire, fun e => by simp [hl] at e⟩
    · exact relEvolves_refl _
  noticeList := s.noticeListLaw_becomeRetired n
  surroundings := s.surroundings_becomeRetired n

theorem State.reportRelease_evolves (n : StationNo) (s : State) : s.Evolves (State.reportRelease n s) := by
  unfold State.reportRelease
  split
  · next h => exact s.becomeRetired_evolves n (Bool.and_eq_true_iff.mp h).1
  · exact .refl s

/-! ## The route -/

/-- A change of one record outside its key, life, regions and notices. -/
theorem State.updateRecord_evolves_fields (s : State) (n : StationNo) (f : StationRecord → StationRecord)
    (hf : ∀ r, (f r).unit = r.unit ∧ (f r).width = r.width ∧ (f r).policy = r.policy ∧ (f r).inRegion = r.inRegion ∧
      (f r).outRegion = r.outRegion ∧ (f r).life = r.life ∧ (f r).notices = r.notices) : s.Evolves (s.updateRecord n f) := by
  refine s.updateRecord_evolves n f (fun r _ => ?_) (fun r => ?_)
  · obtain ⟨unit, width, policy, inRegion, outRegion, life, notices⟩ := hf r
    exact .of_fields unit width policy inRegion outRegion life (congrArg NoticeSet.retired notices)
  · exact (hf r).2.2.2.2.2.2

theorem State.clearAcceptedPort_evolves (n : StationNo) (s : State) : s.Evolves (State.clearAcceptedPort n s) :=
  s.updateRecord_evolves_fields n _ fun r => by split <;> simp

theorem State.clearAcceptedPorts_evolves (s : State) : s.Evolves s.clearAcceptedPorts :=
  State.forStations_evolves State.clearAcceptedPort_evolves _ s

theorem State.emptyRoute_evolves (s : State) : s.Evolves s.emptyRoute := .of_frame rfl rfl rfl

theorem State.freePlaces_evolves (s : State) (n : StationNo) : s.Evolves (s.freePlaces n) := .of_frame rfl rfl rfl

theorem State.setLane_evolves (s : State) (i : LaneNo) (p : Option Place) : s.Evolves (s.setLane i p) := .of_frame rfl rfl rfl

theorem State.raiseHold_evolves (s : State) (n : StationNo) (k : HoldKind) : s.Evolves (s.raiseHold n k) := .of_frame rfl rfl rfl

theorem State.removeHold_evolves (s : State) (n : StationNo) : s.Evolves (s.removeHold n) := .of_frame rfl rfl rfl

theorem State.discardPrivateCopy_evolves (s : State) : s.Evolves s.discardPrivateCopy := by
  unfold State.discardPrivateCopy
  split
  · exact .refl s
  · exact .of_frame rfl rfl rfl

theorem State.leaveOwed_evolves (s : State) (n : StationNo) : s.Evolves (s.leaveOwed n) := by
  unfold State.leaveOwed
  split
  · exact .refl s
  · exact .of_frame rfl rfl rfl

theorem State.laneOverflow_evolves (s : State) (n : StationNo) : s.Evolves (s.laneOverflow n) := by
  unfold State.laneOverflow
  split
  · exact .refl s
  · exact .of_frame rfl rfl rfl

theorem State.remoteTransition_evolves (s : State) (n : StationNo) : s.Evolves (s.remoteTransition n) := by
  have change (m : ControlMode) : s.Evolves ((s.updateRecord n (fun r => { r with mode := m })).addNotice n .modeChanged) :=
    (s.updateRecord_evolves_fields n _ fun _ => by simp).trans (State.addNotice_evolves _ n _ (by decide))
  unfold State.remoteTransition
  split
  · exact .refl s
  · split
    · exact .refl s
    · split
      · exact change _
      · exact change _
      · exact .refl s
      · exact .refl s

theorem State.writeMatch_evolves (s : State) (n : StationNo) (a : Address) : s.Evolves (s.writeMatch n a) :=
  s.updateRecord_evolves_fields n _ fun _ => by simp

theorem State.seatTalker_evolves (s : State) (a : Address) : s.Evolves (s.seatTalker a).state := by
  unfold State.seatTalker
  split
  · exact .refl s
  · split
    · exact .refl s
    · next n _ =>
      have wrote := s.writeMatch_evolves n a
      dsimp only
      split
      · exact wrote.trans (State.addNotice_evolves _ n _ (by decide))
      · split
        · exact wrote.trans (.of_frame rfl rfl rfl)
        · exact wrote.trans (.of_frame rfl rfl rfl)

theorem RoutePass.seatListener_evolves (p : RoutePass) (a : Address) : p.state.Evolves (p.seatListener a).state := by
  unfold RoutePass.seatListener
  dsimp only
  split
  · exact .refl _
  · next n _ =>
    have wrote := p.state.writeMatch_evolves n a
    have denied := wrote.trans (State.addNotice_evolves _ n .seatDenied (by decide))
    split
    · exact wrote
    · split
      · exact denied
      · split
        · exact denied.trans (State.laneOverflow_evolves _ n)
        · split
          · exact wrote.trans (State.setLane_evolves _ _ _)
          · exact wrote.trans (State.setLane_evolves _ _ _)

theorem RoutePass.foldl_seatListener_evolves (as : List Address) (p : RoutePass) :
    p.state.Evolves (as.foldl RoutePass.seatListener p).state := by
  induction as generalizing p with
  | nil => exact .refl _
  | cons a as ih => exact (p.seatListener_evolves a).trans (ih _)

theorem State.raisePortHold_evolves (s : State) (e : StationNo × Address) : s.Evolves (s.raisePortHold e) := by
  unfold State.raisePortHold
  split
  · exact .refl s
  · exact s.raiseHold_evolves _ _

theorem State.takeRoute_evolves (s : State) (talker : Address) (listeners : List Address) :
    s.Evolves (s.takeRoute talker listeners) :=
  s.emptyRoute_evolves.trans <| (State.clearAcceptedPorts_evolves _).trans <| (State.seatTalker_evolves _ talker).trans <|
    (RoutePass.foldl_seatListener_evolves listeners _).trans <| (State.foldl_evolves _ State.remoteTransition_evolves _ _).trans <|
    (State.foldl_evolves _ State.raisePortHold_evolves _ _).trans <| State.forStations_evolves State.reportRelease_evolves _ _

theorem State.acceptPort_evolves (s : State) (n : StationNo) (q : LinkPort) : s.Evolves (s.acceptPort n q) := by
  have seated : s.Evolves (laneNumbers.foldl (fun t i => t.setLane i (settlePlace (t.lane i) n))
      { s with talkSeat := settlePlace s.talkSeat n }) := .of_frame rfl rfl rfl
  have ported := seated.trans (State.updateRecord_evolves_fields _ n (fun r => { r with acceptedPort := some q }) fun _ => by simp)
  unfold State.acceptPort
  dsimp only
  split
  · exact ported.trans (State.remoteTransition_evolves _ n)
  · exact ported

/-! ## Holds -/

theorem State.clearStation_evolves (s : State) (n : StationNo) : s.Evolves (s.clearStation n) :=
  (s.updateRecord_evolves_fields n _ fun _ => by simp).trans (State.addNotice_evolves _ n _ (by decide))

theorem State.applyVerdict_evolves (s : State) (h : Hold) (accept : Bool) : s.Evolves (s.applyVerdict h accept) := by
  unfold State.applyVerdict
  split
  · split
    · exact s.acceptPort_evolves _ _
    · exact s.freePlaces_evolves _
  · split
    · exact s.clearStation_evolves _
    · exact .refl s
  · split
    · exact s.addNotice_evolves _ _ (by decide)
    · exact .refl s
  · exact .refl s
  · exact .refl s

theorem State.holdLeft_evolves (s : State) (h : Hold) : s.Evolves (s.holdLeft h) := by
  unfold State.holdLeft
  split
  · exact s.discardPrivateCopy_evolves.trans (State.reportRelease_evolves _ _)
  · exact State.reportRelease_evolves _ _

theorem State.answerWith_evolves (s : State) (h : Hold) (accept : Bool) : s.Evolves (s.answerWith h accept) :=
  (s.removeHold_evolves _).trans <| (State.applyVerdict_evolves _ h accept).trans <| State.holdLeft_evolves _ h

theorem State.expireHold_evolves (s : State) (h : Hold) : s.Evolves (s.expireHold h) :=
  (s.removeHold_evolves _).trans <| (State.addNotice_evolves _ _ _ (by decide)).trans <| (State.applyVerdict_evolves _ h _).trans <|
    State.holdLeft_evolves _ h

theorem State.expireHolds_evolves (s : State) : s.Evolves s.expireHolds := State.foldl_evolves _ State.expireHold_evolves _ s

theorem State.takePrivate_evolves (s : State) (code : BitVec 6) (body : List Byte) : s.Evolves (s.takePrivate code body) := by
  unfold State.takePrivate
  split
  · exact .refl s
  · have kept : s.Evolves { s with privateCopy := some ⟨code, body⟩ } := .of_frame rfl rfl rfl
    exact kept.trans (State.foldl_evolves _ (fun t m => t.raiseHold_evolves m .privateFrame) _ _)

/-! ## Transfers -/

theorem State.storeFrame_evolves (s : State) (n : StationNo) (body : List Byte) (endMark : Bool) :
    s.Evolves (s.storeFrame n body endMark) := by
  unfold State.storeFrame
  split
  · exact .refl s
  · next r _ =>
    have stored (i : Inbound) (m : Memory) : s.Evolves { s.updateRecord n (fun r => { r with inbound := i }) with memory := m } :=
      (s.updateRecord_evolves_fields n _ fun _ => by simp).trans (.of_frame rfl rfl rfl)
    dsimp only
    split
    · exact (stored _ _).trans (State.addNotice_evolves _ n _ (by decide))
    · exact stored _ _

theorem State.closeUnfinished_evolves (s : State) (n : StationNo) : s.Evolves (s.closeUnfinished n) := by
  unfold State.closeUnfinished
  split
  · exact .refl s
  · split
    · exact .refl s
    · exact (s.updateRecord_evolves_fields n _ fun _ => by simp).trans (State.addNotice_evolves _ n _ (by decide))

theorem DataPass.offer_evolves (body : List Byte) (endMark : Bool) (p : DataPass) (n : StationNo) :
    p.state.Evolves (p.offer body endMark n).state := by
  unfold DataPass.offer
  split
  · exact .refl _
  · split
    · exact .refl _
    · split
      · exact p.state.storeFrame_evolves n body endMark
      · exact p.state.closeUnfinished_evolves n

theorem DataPass.foldl_offer_evolves (body : List Byte) (endMark : Bool) (ns : List StationNo) (p : DataPass) :
    p.state.Evolves (ns.foldl (DataPass.offer body endMark) p).state := by
  induction ns generalizing p with
  | nil => exact .refl _
  | cons n ns ih => exact (p.offer_evolves body endMark n).trans (ih _)

theorem State.formStage_evolves (s : State) (body : List Byte) (endMark : Bool) (owed : List StationNo) :
    s.Evolves (s.formStage body endMark owed) := by
  unfold State.formStage
  split
  · exact .refl s
  · exact .of_frame rfl rfl rfl

theorem State.takeData_evolves (s : State) (endMark : Bool) (body : List Byte) : s.Evolves (s.takeData endMark body) :=
  (DataPass.foldl_offer_evolves body endMark s.listeners ⟨s, [], []⟩).trans <|
    (State.foldl_evolves _ (fun t n => t.raiseHold_evolves n _) _ _).trans <| State.formStage_evolves _ _ _ _

theorem State.deliverStaged_evolves (s : State) (n : StationNo) (g : Stage) : s.Evolves (s.deliverStaged n g) := by
  have held (t : State) (b : Bool) : t.Evolves (if b then t.raiseHold n .endOfMessage else t) := by
    split
    · exact t.raiseHold_evolves n _
    · exact .refl t
  exact (s.storeFrame_evolves n g.body g.endMark).trans <| (held _ _).trans <| (State.leaveOwed_evolves _ n).trans <|
    State.reportRelease_evolves n _

theorem State.expireStage_evolves (s : State) : s.Evolves s.expireStage := by
  unfold State.expireStage
  split
  · exact .refl s
  · next g _ =>
    split
    · have emptied (t : State) : t.Evolves { t with stage := none } := .of_frame rfl rfl rfl
      exact (State.forStations_evolves (fun n t => t.addNotice_evolves n .dataLost (by decide)) g.owed s).trans <|
        (emptied _).trans (State.forStations_evolves State.reportRelease_evolves g.owed _)
    · exact .refl s

theorem State.tick_evolves (s : State) : s.Evolves s.tick := .of_frame rfl rfl rfl

theorem State.outboundDone_evolves (s : State) (n : StationNo) : s.Evolves (s.outboundDone n) :=
  (s.updateRecord_evolves_fields n _ fun _ => by simp).trans (State.addNotice_evolves _ n _ (by decide))

theorem State.sendChunk_evolves (s : State) (n : StationNo) (r : StationRecord) (len : Nat) (e : Bool) (c : Nat) :
    s.Evolves (s.sendChunk n r len e c) := by
  unfold State.sendChunk
  dsimp only
  split
  · exact (s.outboundDone_evolves n).trans (.of_frame rfl rfl rfl)
  · exact (s.updateRecord_evolves_fields n _ fun _ => by simp).trans (.of_frame rfl rfl rfl)

theorem State.takeFetch_evolves (s : State) : s.Evolves s.takeFetch := by
  unfold State.takeFetch
  split
  · exact .refl s
  · next n _ =>
    split
    · exact .refl s
    · split
      · exact .of_frame rfl rfl rfl
      · exact s.sendChunk_evolves _ _ _ _ _
      · exact s.sendChunk_evolves _ _ _ _ _
      · exact (s.outboundDone_evolves n).trans (.of_frame rfl rfl rfl)

/-! ## Requests, modes, CLEAR and TRIGGER -/

theorem State.takePoll_evolves (s : State) (a : Address) : s.Evolves (s.takePoll a) := by
  unfold State.takePoll
  split
  · exact .refl s
  · next n _ =>
    split
    · exact .refl s
    · have wrote := s.writeMatch_evolves n a
      dsimp only
      split
      · exact (wrote.trans (State.updateRecord_evolves_fields _ n _ fun _ => by simp)).trans <|
          (State.addNotice_evolves _ n _ (by decide)).trans (.of_frame rfl rfl rfl)
      · exact wrote.trans (.of_frame rfl rfl rfl)
      · exact wrote.trans (.of_frame rfl rfl rfl)

theorem State.changeMode_evolves (s : State) (n : StationNo) (m : ControlMode) : s.Evolves (s.changeMode n m) :=
  (s.updateRecord_evolves_fields n _ fun _ => by simp).trans (State.addNotice_evolves _ n _ (by decide))

theorem State.remoteOff_evolves (n : StationNo) (s : State) : s.Evolves (State.remoteOff n s) := by
  unfold State.remoteOff
  split
  · exact s.changeMode_evolves n _
  · exact .refl s

theorem State.takeRemote_evolves (s : State) (on : Bool) : s.Evolves (s.takeRemote on) := by
  unfold State.takeRemote
  split
  · exact .of_frame rfl rfl rfl
  · have cleared : s.Evolves { s with remoteEnable := false, lockout := false } := .of_frame rfl rfl rfl
    exact cleared.trans (State.forStations_evolves State.remoteOff_evolves _ _)

theorem State.lockStation_evolves (n : StationNo) (s : State) : s.Evolves (State.lockStation n s) := by
  unfold State.lockStation
  split
  · exact .refl s
  · split
    · exact .refl s
    · split
      · exact s.changeMode_evolves n _
      · exact s.changeMode_evolves n _
      · exact .refl s
      · exact .refl s

theorem State.takeLockout_evolves (s : State) : s.Evolves s.takeLockout := by
  unfold State.takeLockout
  split
  · have locked : s.Evolves { s with lockout := true } := .of_frame rfl rfl rfl
    exact locked.trans (State.forStations_evolves State.lockStation_evolves _ _)
  · exact .refl s

theorem State.localStation_evolves (n : StationNo) (s : State) : s.Evolves (State.localStation n s) := by
  unfold State.localStation
  split
  · exact .refl s
  · split
    · exact s.changeMode_evolves n _
    · exact s.changeMode_evolves n _
    · exact .refl s
    · exact .refl s

theorem State.clearTarget_evolves (scope : ClearScope) (n : StationNo) (s : State) : s.Evolves (State.clearTarget scope n s) := by
  unfold State.clearTarget
  split
  · exact s.raiseHold_evolves n _
  · exact s.clearStation_evolves n

theorem State.triggerTarget_evolves (n : StationNo) (s : State) : s.Evolves (State.triggerTarget n s) := by
  unfold State.triggerTarget
  split
  · exact s.raiseHold_evolves n _
  · exact s.addNotice_evolves n _ (by decide)

/-! ## RESET LINK and DETACH -/

theorem State.resetStation_evolves (before : State) (n : StationNo) (s : State) : s.Evolves (State.resetStation before n s) := by
  have noticed (t : State) (b : Bool) (k : NoticeKind) (hk : k ≠ .retired) : t.Evolves (if b then t.addNotice n k else t) := by
    split
    · exact t.addNotice_evolves n k hk
    · exact .refl t
  have rewound : s.Evolves (if before.isLive n then
      s.updateRecord n (fun r => { r with inbound := r.inbound.dropFilling, outbound := r.outbound.rewind }) else s) := by
    split
    · exact s.updateRecord_evolves_fields n _ fun _ => by simp
    · exact .refl s
  exact rewound.trans <| (noticed _ _ .holdWithdrawn (by decide)).trans <| (noticed _ _ .dataLost (by decide)).trans <|
    noticed _ _ .outboundDone (by decide)

theorem State.resetTransfers_evolves (s : State) : s.Evolves s.resetTransfers := by
  have released (t : State) : t.Evolves { t with holds := [], privateCopy := none, stage := none } := .of_frame rfl rfl rfl
  exact s.emptyRoute_evolves.trans <| (State.clearAcceptedPorts_evolves _).trans <| (released _).trans <|
    (State.forStations_evolves (State.resetStation_evolves s) _ _).trans (State.forStations_evolves State.reportRelease_evolves _ _)

theorem State.detachMode_evolves (n : StationNo) (s : State) : s.Evolves (State.detachMode n s) :=
  s.updateRecord_evolves_fields n _ fun r => by split <;> simp

/-- A frame taken changes the records as `State.Evolves` says. -/
theorem State.takeFrame_evolves (s : State) (f : ControllerFrame) : s.Evolves (s.takeFrame f) := by
  cases f with
  | route talker listeners => exact s.takeRoute_evolves talker listeners
  | data endMark body => exact s.takeData_evolves endMark body
  | fetch => exact s.takeFetch_evolves
  | poll a => exact s.takePoll_evolves a
  | clear scope => exact State.forStations_evolves (State.clearTarget_evolves scope) _ s
  | trigger => exact State.forStations_evolves State.triggerTarget_evolves _ s
  | remote on => exact s.takeRemote_evolves on
  | lockout => exact s.takeLockout_evolves
  | localFrame => exact State.forStations_evolves State.localStation_evolves _ s
  | resetLink =>
    have seen : s.Evolves s.linkResetSeen := .of_frame rfl rfl rfl
    exact seen.trans (State.resetTransfers_evolves _)
  | privateFrame code body => exact s.takePrivate_evolves code body

end Sys2Proof.Machine

/-! # The fields of DEFINE STATION

The check of the twelve fields (R10) answers the definition they describe when all of them pass, and otherwise the first that fails. -/

namespace Sys2Proof.Machine

-- One theorem after the other: each thread of its own would take a stack.
set_option Elab.async false

open Sys2Proof.Claims

/-- A byte is a number. -/
theorem byte_eq_iff (b : Byte) (n : Nat) (c : Byte) (h : c.toNat = n := by rfl) : b = c ↔ b.toNat = n := by
  rw [← BitVec.toNat_inj, h]

/-- A station field above 31 names no station (R8). -/
theorem stationField_none (b : Byte) (h : 32 ≤ b.toNat) : stationField b = none := by
  simp [stationField, Nat.not_lt.mpr h]

theorem widthField_eq_none (b : Byte) (h : ¬ b.toNat < 3) : widthField b = none := by
  unfold widthField
  simp only [byte_eq_iff b 0 0, byte_eq_iff b 1 1, byte_eq_iff b 2 2]
  rw [if_neg (by omega), if_neg (by omega), if_neg (by omega)]

/-- The match width of a code. -/
def widthOf (b : Byte) : MatchWidth := if b.toNat = 0 then .exact else if b.toNat = 1 then .pair else .quad

theorem widthField_eq_some (b : Byte) (h : b.toNat < 3) : widthField b = some (widthOf b) := by
  unfold widthField widthOf
  simp only [byte_eq_iff b 0 0, byte_eq_iff b 1 1, byte_eq_iff b 2 2]
  split
  · rfl
  · split
    · rfl
    · rw [if_pos (by omega)]

/-- The base unit test of R2 in the words of field 3. -/
theorem unitAllowed_widthOf (w : Byte) (u : Nat) : unitAllowed (widthOf w) u = true ↔
    if w.toNat = 0 then 1 ≤ u ∧ u ≤ 126
    else if w.toNat = 1 then 2 ≤ u ∧ u ≤ 126 ∧ u % 2 = 0
    else 4 ≤ u ∧ u ≤ 124 ∧ u % 4 = 0 := by
  unfold widthOf
  split
  · simp [unitAllowed]
  · split <;> simp [unitAllowed]

/-- The port policy of the two fields. -/
def policyOf (code port : Byte) : PortPolicy :=
  if code.toNat = 0 then .noPort else if code.toNat = 1 then .fixed (Fin.ofNat 16 port.toNat) else .openPort

theorem policyFields_ok (code port : Byte) (hc : code.toNat < 3) (hp : code.toNat = 1 → port.toNat < 16) :
    policyFields code port = .ok (policyOf code port) := by
  unfold policyFields policyOf
  simp only [byte_eq_iff code 0 0, byte_eq_iff code 1 1, byte_eq_iff code 2 2]
  split
  · rfl
  · split
    · next h1 =>
      rw [dif_pos (hp h1)]
      exact congrArg (fun q => Except.ok (PortPolicy.fixed q)) (Fin.ext (Nat.mod_eq_of_lt (hp h1)).symm)
    · rw [if_pos (by omega)]

theorem policyFields_badCode (code port : Byte) (hc : ¬ code.toNat < 3) : policyFields code port = .error 4 := by
  unfold policyFields
  simp only [byte_eq_iff code 0 0, byte_eq_iff code 1 1, byte_eq_iff code 2 2]
  rw [if_neg (by omega), if_neg (by omega), if_neg (by omega)]

theorem policyFields_badPort (code port : Byte) (hc : code.toNat = 1) (hp : ¬ port.toNat < 16) :
    policyFields code port = .error 5 := by
  have one : code = 1 := (byte_eq_iff code 1 1).mpr hc
  simp [policyFields, one, hp]

theorem regionPasses_iff (first count : Byte) : regionPasses first count = true ↔
    1 ≤ count.toNat ∧ count.toNat ≤ 64 ∧ first.toNat + count.toNat ≤ 256 := by
  simp [regionPasses]

/-- The trigger line of a field that passes. -/
def triggerOf (b : Byte) : Option LineNo := if b.toNat = 255 then none else some (Fin.ofNat 4 b.toNat)

theorem triggerField_eq_some (b : Byte) (h : b.toNat < 4 ∨ b.toNat = 255) : triggerField b = some (triggerOf b) := by
  unfold triggerField triggerOf
  simp only [byte_eq_iff b 255 255]
  split
  · rfl
  · have small : b.toNat < 4 := by omega
    rw [dif_pos small]
    exact congrArg (fun l => some (some l)) (Fin.ext (Nat.mod_eq_of_lt small).symm)

theorem triggerField_eq_none (b : Byte) (h : ¬ (b.toNat < 4 ∨ b.toNat = 255)) : triggerField b = none := by
  unfold triggerField
  rw [if_neg (fun e => h (.inr ((byte_eq_iff b 255 255).mp e))), dif_neg (by omega)]

/-! ## The roles -/

/-- A roles byte names its two roles in its two low bits. -/
theorem roleBits (b : Byte) : b.getLsbD 0 = decide (b.toNat % 2 = 1) ∧ b.getLsbD 1 = decide (b.toNat / 2 % 2 = 1) := by
  constructor
  · rw [BitVec.getLsbD, Nat.testBit_zero]
  · rw [BitVec.getLsbD, Nat.testBit_eq_decide_div_mod_eq]

/-- Bits 7 to 2 of a byte are clear exactly when it is below 4. -/
theorem highBits_clear_iff (b : Byte) : b &&& 0xFC = 0 ↔ b.toNat < 4 := by
  revert b; decide

/-- Field 6 fails when a bit without a role is set or no role is chosen. -/
theorem roles_fail_iff (b : Byte) :
    (b &&& 0xFC ≠ 0 ∨ (b.getLsbD 0 = false ∧ b.getLsbD 1 = false)) ↔ ¬ (1 ≤ b.toNat ∧ b.toNat ≤ 3) := by
  rw [(roleBits b).1, (roleBits b).2, ne_eq, highBits_clear_iff]
  simp only [decide_eq_false_iff_not]
  omega

/-! ## The twelve fields -/

/-- The definition that a parameter block describes. -/
def definitionOf (p : ParamBlock) : Definition where
  station := stationField p[0]
  unit := Fin.ofNat 128 p[2].toNat
  width := widthOf p[1]
  policy := policyOf p[3] p[4]
  mayTalk := p[5].getLsbD 0
  mayListen := p[5].getLsbD 1
  inRegion := regionOf (p[5].getLsbD 1) p[6] p[7]
  outRegion := regionOf (p[5].getLsbD 0) p[8] p[9]
  options := optionsField p[10]
  triggerLine := triggerOf p[11]

/-- The test of field 1 fails on a number above 31 other than 255. -/
theorem stationTest_iff (p : ParamBlock) : (p[0].toNat ≥ 32 ∧ p[0] ≠ 255) ↔ ¬ fieldPasses p 1 := by
  have := byte_eq_iff p[0] 255 255
  simp only [fieldPasses, ne_eq]
  rw [this]
  omega

theorem unitTest_iff (p : ParamBlock) :
    (p[2].toNat < 128 ∧ unitAllowed (widthOf p[1]) p[2].toNat = true) ↔ fieldPasses p 3 := by
  rw [unitAllowed_widthOf]
  simp only [fieldPasses]
  constructor
  · exact fun h => h.2
  · intro h
    refine ⟨?_, h⟩
    split at h
    · omega
    · split at h <;> omega

theorem rolesTest_iff (p : ParamBlock) :
    (p[5] &&& 0xFC ≠ 0 ∨ (p[5].getLsbD 0 = false ∧ p[5].getLsbD 1 = false)) ↔ ¬ fieldPasses p 6 := roles_fail_iff p[5]

/-- The test of the inbound region, once the roles have passed. -/
theorem inRegionTest_iff (p : ParamBlock) (h6 : fieldPasses p 6) :
    (p[5].getLsbD 1 = true ∧ regionPasses p[6] p[7] = false) ↔ ¬ fieldPasses p 8 := by
  have range : 1 ≤ p[5].toNat ∧ p[5].toNat ≤ 3 := h6
  rw [(roleBits _).2, decide_eq_true_eq, ← Bool.not_eq_true, regionPasses_iff]
  simp only [fieldPasses]
  rw [show p[5].toNat / 2 % 2 = p[5].toNat / 2 by omega, Classical.not_imp]

/-- The test of the outbound region. -/
theorem outRegionTest_iff (p : ParamBlock) :
    (p[5].getLsbD 0 = true ∧ regionPasses p[8] p[9] = false) ↔ ¬ fieldPasses p 10 := by
  rw [(roleBits _).1, decide_eq_true_eq, ← Bool.not_eq_true, regionPasses_iff]
  simp only [fieldPasses]
  rw [Classical.not_imp]

/-- The check of the fields from the roles on, once those before have passed. -/
def fieldsFromRoles (p : ParamBlock) : Except Byte Definition :=
  if p[5] &&& 0xFC ≠ 0 ∨ (p[5].getLsbD 0 = false ∧ p[5].getLsbD 1 = false) then .error 6
  else if p[5].getLsbD 1 = true ∧ regionPasses p[6] p[7] = false then .error 8
  else if p[5].getLsbD 0 = true ∧ regionPasses p[8] p[9] = false then .error 10
  else match triggerField p[11] with
    | none => .error 12
    | some line => .ok { definitionOf p with triggerLine := line }

/-- The check of the fields from the port policy on, once those before have passed. -/
def fieldsFromPolicy (p : ParamBlock) : Except Byte Definition :=
  match policyFields p[3] p[4] with
  | .error e => .error e
  | .ok _ => fieldsFromRoles p

theorem defineFields_badStation (p : ParamBlock) (h : ¬ fieldPasses p 1) : defineFields p = .error 1 := by
  unfold defineFields
  rw [if_pos ((stationTest_iff p).mpr h)]

theorem defineFields_badWidth (p : ParamBlock) (h1 : fieldPasses p 1) (h : ¬ fieldPasses p 2) : defineFields p = .error 2 := by
  unfold defineFields
  rw [if_neg (fun e => (stationTest_iff p).mp e h1), widthField_eq_none _ h]

theorem defineFields_badUnit (p : ParamBlock) (h1 : fieldPasses p 1) (h2 : fieldPasses p 2) (h : ¬ fieldPasses p 3) :
    defineFields p = .error 3 := by
  unfold defineFields
  rw [if_neg (fun e => (stationTest_iff p).mp e h1), widthField_eq_some _ h2]
  exact dif_neg (fun e => h ((unitTest_iff p).mp e))

theorem policyFields_error (p : ParamBlock) (k : Byte) (h : policyFields p[3] p[4] = .error k) : fieldsFromPolicy p = .error k := by
  rw [fieldsFromPolicy, h]

theorem defineFields_fromPolicy (p : ParamBlock) (h1 : fieldPasses p 1) (h2 : fieldPasses p 2) (h3 : fieldPasses p 3) :
    defineFields p = fieldsFromPolicy p := by
  have unit := (unitTest_iff p).mpr h3
  unfold defineFields
  rw [if_neg (fun e => (stationTest_iff p).mp e h1), widthField_eq_some _ h2]
  refine (dif_pos unit).trans ?_
  unfold fieldsFromPolicy
  by_cases h4 : fieldPasses p 4
  · by_cases h5 : fieldPasses p 5
    · rw [policyFields_ok _ _ h4 h5]
      have hu : (⟨p[2].toNat, unit.1⟩ : LinkUnit) = Fin.ofNat 128 p[2].toNat := Fin.ext (Nat.mod_eq_of_lt unit.1).symm
      simp only [fieldsFromRoles, hu]
      rfl
    · obtain ⟨one, big⟩ := Classical.not_imp.mp h5
      rw [policyFields_badPort _ _ one big]
  · rw [policyFields_badCode _ _ h4]

theorem fieldsFromPolicy_pass (p : ParamBlock) (h4 : fieldPasses p 4) (h5 : fieldPasses p 5) :
    fieldsFromPolicy p = fieldsFromRoles p := by
  rw [fieldsFromPolicy, policyFields_ok _ _ h4 h5]

/-- With every field passed the check answers the definition described. -/
theorem defineFields_ok (p : ParamBlock) (h : ∀ k, fieldPasses p k) : defineFields p = .ok (definitionOf p) := by
  rw [defineFields_fromPolicy p (h 1) (h 2) (h 3), fieldsFromPolicy_pass p (h 4) (h 5)]
  unfold fieldsFromRoles
  rw [if_neg (fun e => (rolesTest_iff p).mp e (h 6)), if_neg (fun e => (inRegionTest_iff p (h 6)).mp e (h 8)),
    if_neg (fun e => (outRegionTest_iff p).mp e (h 10)), triggerField_eq_some _ (h 12)]
  rfl

/-- The fields with a test, in the order in which they are checked. -/
theorem firstFailing_tested {p : ParamBlock} {k : Nat} (h : FirstFailing p k) :
    k = 1 ∨ k = 2 ∨ k = 3 ∨ k = 4 ∨ k = 5 ∨ k = 6 ∨ k = 8 ∨ k = 10 ∨ k = 12 := by
  obtain ⟨low, high, fails, _⟩ := h
  interval_cases k <;> first | decide | exact absurd trivial fails

/-- Otherwise it answers the first field that fails. -/
theorem defineFields_error (p : ParamBlock) (k : Nat) (h : FirstFailing p k) : defineFields p = .error (BitVec.ofNat 8 k) := by
  obtain ⟨_, _, fails, before⟩ := id h
  rcases firstFailing_tested h with rfl | rfl | rfl | rfl | rfl | late
  · exact defineFields_badStation p fails
  · exact defineFields_badWidth p (before 1 (by decide)) fails
  · exact defineFields_badUnit p (before 1 (by decide)) (before 2 (by decide)) fails
  · rw [defineFields_fromPolicy p (before 1 (by decide)) (before 2 (by decide)) (before 3 (by decide))]
    exact policyFields_error p _ (policyFields_badCode _ _ fails)
  · rw [defineFields_fromPolicy p (before 1 (by decide)) (before 2 (by decide)) (before 3 (by decide))]
    obtain ⟨one, big⟩ := Classical.not_imp.mp fails
    exact policyFields_error p _ (policyFields_badPort _ _ one big)
  · have pass (j : Nat) (hj : j < 6) : fieldPasses p j := before j (by omega)
    rw [defineFields_fromPolicy p (pass 1 (by decide)) (pass 2 (by decide)) (pass 3 (by decide)),
      fieldsFromPolicy_pass p (pass 4 (by decide)) (pass 5 (by decide))]
    unfold fieldsFromRoles
    rcases late with rfl | rfl | rfl | rfl
    · exact if_pos ((rolesTest_iff p).mpr fails)
    · have h6 := before 6 (by decide)
      rw [if_neg (fun e => (rolesTest_iff p).mp e h6)]
      exact if_pos ((inRegionTest_iff p h6).mpr fails)
    · have h6 := before 6 (by decide)
      rw [if_neg (fun e => (rolesTest_iff p).mp e h6),
        if_neg (fun e => (inRegionTest_iff p h6).mp e (before 8 (by decide)))]
      exact if_pos ((outRegionTest_iff p).mpr fails)
    · have h6 := before 6 (by decide)
      rw [if_neg (fun e => (rolesTest_iff p).mp e h6),
        if_neg (fun e => (inRegionTest_iff p h6).mp e (before 8 (by decide))),
        if_neg (fun e => (outRegionTest_iff p).mp e (before 10 (by decide))), triggerField_eq_none _ fails]
      rfl

/-- Either every field passes or one fails first. -/
theorem fieldsPass_or_firstFailing (p : ParamBlock) : (∀ k, fieldPasses p k) ∨ ∃ k, FirstFailing p k := by
  classical
  by_cases h : ∃ k, ¬ fieldPasses p k
  · have bound : 1 ≤ Nat.find h ∧ Nat.find h ≤ 12 := by
      by_contra out
      refine Nat.find_spec h ?_
      generalize Nat.find h = k at out
      unfold fieldPasses
      split <;> trivial
    exact .inr ⟨Nat.find h, bound.1, bound.2, Nat.find_spec h, fun j hj => Classical.not_not.mp (Nat.find_min h hj)⟩
  · exact .inl fun k => Classical.not_not.mp fun hk => h ⟨k, hk⟩

/-- A definition that the check answers is the one described, and every field has passed. -/
theorem defineFields_ok_iff (p : ParamBlock) (d : Definition) :
    defineFields p = .ok d ↔ (∀ k, fieldPasses p k) ∧ d = definitionOf p := by
  rcases fieldsPass_or_firstFailing p with pass | ⟨k, fails⟩
  · simp only [defineFields_ok p pass, pass, implies_true, true_and, Except.ok.injEq]
    exact eq_comm
  · rw [defineFields_error p k fails]
    simp only [reduceCtorEq, false_iff, not_and]
    exact fun pass => absurd (pass k) fails.2.2.1

end Sys2Proof.Machine

/-! # What the commands do to the records -/

namespace Sys2Proof.Machine

-- One theorem after the other: each thread of its own would take a stack.
set_option Elab.async false

open Sys2Proof.Claims

/-! ## Address keys and regions in conflict -/

/-- Two unit sets intersect exactly when some unit lies in both (R12). -/
theorem unitsMeet_iff (w : MatchWidth) (u : LinkUnit) (w' : MatchWidth) (u' : LinkUnit) :
    unitsMeet w u w' u' = true ↔ ∃ x, coversUnit w u x = true ∧ coversUnit w' u' x = true := by
  simp [unitsMeet]

/-- Two port sets intersect exactly when "no port" or some port lies in both (R12). -/
theorem portsMeet_iff (p q : PortPolicy) : portsMeet p q = true ↔ ∃ x, p.covers x = true ∧ q.covers x = true := by
  have all (x : Option LinkPort) : x ∈ allPorts := by cases x <;> simp [allPorts]
  simp [portsMeet, all]

theorem StationRecord.matchesRoute_iff (r : StationRecord) (a : Address) :
    r.matchesRoute a = true ↔ coversUnit r.width r.unit a.unit = true ∧ r.policy.covers a.port = true := by
  simp [StationRecord.matchesRoute]

/-- Two keys conflict exactly when some ROUTE address would reach both stations. -/
theorem Definition.keyConflicts_iff (d : Definition) (lockout : Bool) (q : StationRecord) :
    d.keyConflicts q = true ↔ ∃ a, (newRecord d lockout).matchesRoute a = true ∧ q.matchesRoute a = true := by
  simp only [Definition.keyConflicts, Bool.and_eq_true, unitsMeet_iff, portsMeet_iff, StationRecord.matchesRoute_iff]
  constructor
  · rintro ⟨⟨x, hx, hx'⟩, y, hy, hy'⟩
    exact ⟨⟨x, y⟩, ⟨hx, hy⟩, hx', hy'⟩
  · rintro ⟨a, ⟨hx, hy⟩, hx', hy'⟩
    exact ⟨⟨a.unit, hx, hx'⟩, a.port, hy, hy'⟩

/-- The addresses of a region, by its pages of 32 bytes (R4). -/
theorem Region.contains_iff (g : Region) (a : Nat) :
    g.contains a = true ↔ g.first.val * 32 ≤ a ∧ a < (g.first.val + g.count) * 32 := by
  simp only [Region.contains, Bool.and_eq_true, decide_eq_true_eq]
  simp only [Region.base, Region.capacity, Nat.add_mul]

theorem Region.overlaps_iff_pages (g h : Region) :
    g.overlaps h = true ↔ g.first.val < h.first.val + h.count ∧ h.first.val < g.first.val + g.count := by
  simp only [Region.overlaps, Bool.and_eq_true, decide_eq_true_eq]

/-- Two regions that share an address share a page. -/
theorem Region.overlaps_of_contains {g h : Region} {a : Nat} (hg : g.contains a = true) (hh : h.contains a = true) :
    g.overlaps h = true := by
  rw [Region.contains_iff] at hg hh
  rw [Region.overlaps_iff_pages]
  omega

/-- Two regions, neither empty, share a page exactly when they share an address. -/
theorem Region.overlaps_iff {g h : Region} (hg : 1 ≤ g.count) (hh : 1 ≤ h.count) :
    g.overlaps h = true ↔ ∃ a, g.contains a = true ∧ h.contains a = true := by
  refine ⟨fun o => ?_, fun ⟨a, ha, ha'⟩ => Region.overlaps_of_contains ha ha'⟩
  refine ⟨max g.first.val h.first.val * 32, ?_⟩
  rw [Region.overlaps_iff_pages] at o
  rw [Region.contains_iff, Region.contains_iff]
  omega

theorem regionsMeet_iff (g h : Option Region) :
    regionsMeet g h = true ↔ ∃ g' h', g = some g' ∧ h = some h' ∧ g'.overlaps h' = true := by
  cases g <;> cases h <;> simp [regionsMeet]

/-- Which regions of a definition and of a record share a page. -/
theorem Definition.regionConflicts_iff (d : Definition) (lockout : Bool) (q : StationRecord) :
    d.regionConflicts q = true ↔
      ∃ i j g h, (newRecord d lockout).region i = some g ∧ q.region j = some h ∧ g.overlaps h = true := by
  simp only [Definition.regionConflicts, Bool.or_eq_true, regionsMeet_iff, Bool.exists_bool, StationRecord.region, newRecord,
    Bool.false_eq_true, if_true, if_false, or_assoc, or_comm]

/-! ## DEFINE STATION -/

theorem State.onlineWith_iff (s : State) (n : StationNo) (p : StationRecord → Bool) :
    s.onlineWith n p = true ↔ ∃ r, Online s n r ∧ p r = true := by
  unfold State.onlineWith Online
  cases s.record n <;> simp [and_assoc]

/-- A record of a definition that passes the tests on the other stations (R11 to R13). -/
structure State.Admits (s : State) (d : Definition) (n : StationNo) : Prop where
  free : s.record n = none
  key : s.addressConflict d = none
  pages : s.regionConflict n d = none

/-- DEFINE STATION changes nothing, or makes a FREE record ONLINE with the definition its fields describe (R14). -/
theorem defineStation_cases (p : ParamBlock) (s : State) :
    (defineStationCommand p s).state = s ∨
    ∃ n, (∀ k, fieldPasses p k) ∧ s.Admits (definitionOf p) n ∧
      defineStationCommand p s =
        ⟨s.setRecord n (some (newRecord (definitionOf p) s.lockout)), .ok, stationByte n, []⟩ := by
  unfold defineStationCommand
  split
  · exact .inl rfl
  · next d hd =>
    obtain ⟨pass, rfl⟩ := (defineFields_ok_iff p d).mp hd
    split
    · exact .inl rfl
    · next n hn =>
      have free : s.record n = none := by
        unfold State.chooseRecord at hn
        split at hn
        · split at hn
          · next m _ hm => exact (Except.ok.inj hn) ▸ hm
          · cases hn
        · split at hn
          · next m hm => exact (Except.ok.inj hn) ▸ (by simpa using List.find?_some hm)
          · cases hn
      split
      · exact .inl rfl
      · next hk =>
        split
        · exact .inl rfl
        · next hr => exact .inr ⟨n, pass, ⟨free, hk, hr⟩, rfl⟩

/-- The key of an admitted definition is matched together with no ONLINE station's (R12). -/
theorem State.Admits.key_disjoint {s : State} {d : Definition} {n : StationNo} (h : s.Admits d n) {m : StationNo}
    {q : StationRecord} (hq : Online s m q) (lockout : Bool) (a : Address)
    (ha : (newRecord d lockout).matchesRoute a = true) : ¬ q.matchesRoute a = true := by
  intro hqa
  have conflict : s.onlineWith m d.keyConflicts = true :=
    (s.onlineWith_iff m _).mpr ⟨q, hq, (d.keyConflicts_iff lockout q).mpr ⟨a, ha, hqa⟩⟩
  exact List.find?_eq_none.mp h.key m (List.mem_finRange m) conflict

/-- The regions of an admitted definition share no address with those of another ONLINE or RETIRING station (R13). -/
theorem State.Admits.pages_disjoint {s : State} {d : Definition} {n : StationNo} (h : s.Admits d n) {m : StationNo}
    {q : StationRecord} (hm : m ≠ n) (hq : s.record m = some q) (hl : q.life ≠ .retired) (lockout : Bool) {i j : Bool}
    {g k : Region} (hg : (newRecord d lockout).region i = some g) (hk : q.region j = some k) (a : Nat)
    (ha : g.contains a = true) : ¬ k.contains a = true := by
  intro hka
  have free := List.find?_eq_none.mp h.pages m (List.mem_finRange m)
  simp only [hm, if_false, hq, Bool.and_eq_true, decide_eq_true_eq] at free
  exact free ⟨hl, (d.regionConflicts_iff lockout q).mpr ⟨i, j, g, k, hg, hk, Region.overlaps_of_contains ha hka⟩⟩

/-- The two regions of an admitted definition share no address (R13). -/
theorem State.Admits.own_disjoint {s : State} {d : Definition} {n : StationNo} (h : s.Admits d n) {g k : Region}
    (hg : d.inRegion = some g) (hk : d.outRegion = some k) (a : Nat) (ha : g.contains a = true) : ¬ k.contains a = true := by
  intro hka
  have free := List.find?_eq_none.mp h.pages n (List.mem_finRange n)
  simp only [if_true] at free
  exact free ((regionsMeet_iff _ _).mpr ⟨g, k, hg, hk, Region.overlaps_of_contains ha hka⟩)

/-- The regions of a definition whose fields pass lie within the 256 pages (R4, R10). -/
theorem definitionOf_region_range {p : ParamBlock} (pass : ∀ k, fieldPasses p k) (lockout : Bool) {i : Bool} {g : Region}
    (hg : (newRecord (definitionOf p) lockout).region i = some g) : 1 ≤ g.count ∧ g.count ≤ 64 ∧ g.first.val + g.count ≤ 256 := by
  have test (role : Bool) (first count : Byte) (h : ¬ (role = true ∧ regionPasses first count = false))
      (e : regionOf role first count = some g) : 1 ≤ g.count ∧ g.count ≤ 64 ∧ g.first.val + g.count ≤ 256 := by
    unfold regionOf at e
    split at e
    · next hr =>
      obtain rfl := Option.some.inj e
      exact (regionPasses_iff first count).mp (by simpa [hr] using h)
    · cases e
  cases i with
  | true => exact test _ _ _ (fun e => (inRegionTest_iff p (pass 6)).mp e (pass 8)) hg
  | false => exact test _ _ _ (fun e => (outRegionTest_iff p).mp e (pass 10)) hg

/-! ## RETIRE STATION -/

/-- The record after the steps of R18. -/
def StationRecord.quiet (r : StationRecord) : StationRecord := { r with request := .quiet, outbound := .empty }

theorem StationRecord.ages_quiet (r : StationRecord) : r.Ages r.quiet := by
  constructor <;> simp [StationRecord.quiet]

theorem State.record_quietStation (s : State) (n m : StationNo) :
    (s.quietStation n).record m = if m = n then (s.record n).map StationRecord.quiet else s.record m :=
  s.record_updateRecord n m _

/-- The steps of R18 on an ONLINE station leave its life, key, regions and notices alone. -/
theorem State.quietStation_evolves (s : State) (n : StationNo) : s.Evolves (s.quietStation n) :=
  s.updateRecord_evolves_fields n _ fun _ => by simp

theorem State.cutStation_evolves (s : State) (n : StationNo) : s.Evolves (s.cutStation n) :=
  (s.freePlaces_evolves n).trans <| (State.removeHold_evolves _ n).trans <| (State.discardPrivateCopy_evolves _).trans <|
    State.leaveOwed_evolves _ n

/-- The records are out of reach of the cuts. -/
theorem State.stations_cutStation (s : State) (n : StationNo) : (s.cutStation n).stations = s.stations := by
  have discard (t : State) : t.discardPrivateCopy.stations = t.stations := by
    unfold State.discardPrivateCopy; split <;> rfl
  have leave (t : State) : (t.leaveOwed n).stations = t.stations := by
    unfold State.leaveOwed; split <;> rfl
  rw [State.cutStation, leave, discard]; rfl

/-- What a RETIRE STATION that retires does to its station: the record it was, the record it becomes, and the result (R19, R22). -/
structure State.Retires (s : State) (o : CommandOutcome) (n : StationNo) (r q : StationRecord) : Prop where
  found : s.record n = some r
  live : r.life ≠ .retired
  records : ∀ m, o.state.record m = if m = n then some q else s.record m
  ages : r.Ages q
  noticeList : s.noticeListLaw → o.state.noticeListLaw
  surroundings : o.state.surroundings = s.surroundings
  outcome : (q.life = .retiring ∧ o.result = .pending ∧ o.state.hasObligation n = true) ∨ (q.life = .retired ∧ o.result = .ok)

/-- The obligations of a station see the route, the holds and the stage alone. -/
theorem State.hasObligation_congr {s t : State} (hseat : t.talkSeat = s.talkSeat) (hlanes : t.lanes = s.lanes)
    (hholds : t.holds = s.holds) (hstage : t.stage = s.stage) (n : StationNo) : t.hasObligation n = s.hasObligation n := by
  have lane (i : LaneNo) : t.lane i = s.lane i := by rw [State.lane, State.lane, hlanes]
  simp only [State.hasObligation, State.hasPlace, State.pendingHold, State.isOwed, hseat, hholds, hstage, lane]

theorem retireGraceful_retires (s : State) (n : StationNo) (r : StationRecord) (hr : s.record n = some r)
    (ho : r.life = .online) : ∃ q, s.Retires (retireGraceful s n) n r q := by
  have quiet := s.quietStation_evolves n
  have hq : (s.quietStation n).record n = some r.quiet := by
    rw [State.record_quietStation, if_pos rfl, hr]; rfl
  unfold retireGraceful
  dsimp only
  split
  · next obliged =>
    refine ⟨{ r.quiet with life := .retiring }, hr, by simp [ho], fun m => ?_, ?_, fun h => ?_, ?_,
      .inl ⟨rfl, rfl, ?_⟩⟩
    · rw [CommandOutcome.plain, State.record_updateRecord, hq, State.record_quietStation]
      split <;> rfl
    · constructor <;> simp [ho, StationRecord.quiet]
    · exact ⟨(quiet.noticeList h).1, State.noticeListLaw_updateRecord _ n _ (fun _ => rfl) (quiet.noticeList h).2⟩
    · exact quiet.surroundings
    · rw [← obliged]; exact State.hasObligation_congr rfl rfl rfl rfl n
  · refine ⟨r.quiet.retire, hr, by simp [ho], fun m => ?_, ?_,
      fun h => State.noticeListLaw_becomeRetired _ n (quiet.noticeList h), ?_, .inr ⟨rfl, rfl⟩⟩
    · rw [CommandOutcome.plain, State.record_becomeRetired, hq, State.record_quietStation]
      split <;> rfl
    · exact r.ages_quiet.trans r.quiet.ages_retire
    · rw [CommandOutcome.plain, State.surroundings_becomeRetired]; exact quiet.surroundings

theorem retireImmediate_retires (s : State) (n : StationNo) (r : StationRecord) (hr : s.record n = some r)
    (hl : r.life ≠ .retired) : ∃ q, s.Retires (retireImmediate s n r) n r q := by
  -- The state and the record after the steps of R18, which an ONLINE station alone takes.
  obtain ⟨t, quiet, q, ages, records, ht⟩ : ∃ t, s.Evolves t ∧ ∃ q, r.Ages q ∧
      (∀ m, t.record m = if m = n then some q else s.record m) ∧ retireImmediate s n r = .plain ((t.cutStation n).becomeRetired n) .ok := by
    by_cases ho : r.life = .online
    · refine ⟨s.quietStation n, s.quietStation_evolves n, r.quiet, r.ages_quiet, fun m => ?_, by rw [retireImmediate, if_pos ho]⟩
      rw [State.record_quietStation, hr]; rfl
    · refine ⟨s, .refl s, r, .refl r, fun m => ?_, by rw [retireImmediate, if_neg ho]⟩
      split
      · next e => rw [e, hr]
      · rfl
  have cut := quiet.trans (t.cutStation_evolves n)
  rw [ht]
  refine ⟨q.retire, hr, hl, fun m => ?_, ages.trans q.ages_retire, fun h => ?_, ?_, .inr ⟨rfl, rfl⟩⟩
  · rw [CommandOutcome.plain, State.record_becomeRetired, State.record_congr (t.stations_cutStation n),
      State.record_congr (t.stations_cutStation n), records, records, if_pos rfl]
    split <;> rfl
  · exact State.noticeListLaw_becomeRetired _ n (cut.noticeList h)
  · rw [CommandOutcome.plain, State.surroundings_becomeRetired]; exact cut.surroundings

/-- What holds of the two refusals of R8 and of the action on a record accepted holds of a command that names a station. -/
theorem withStation_cases {s : State} {n : StationNo} {accepts : LifeState → Bool} {act : StationRecord → CommandOutcome}
    (P : CommandOutcome → Prop) (free : P (.plain s .notDefined)) (refused : P (.plain s .notOnline))
    (accepted : ∀ r, s.record n = some r → accepts r.life = true → P (act r)) : P (withStation s n accepts act) := by
  cases hr : s.record n with
  | none => rw [withStation_free s n accepts act hr]; exact free
  | some r =>
    cases ha : accepts r.life with
    | true => rw [withStation_accepts s n accepts act r hr ha]; exact accepted r hr ha
    | false => rw [withStation_refuses s n accepts act r hr ha]; exact refused

/-- RETIRE STATION changes nothing, or retires a station. -/
theorem retireStation_cases (p : ParamBlock) (s : State) :
    (retireStationCommand p s).state = s ∨ ∃ n r q, s.Retires (retireStationCommand p s) n r q := by
  unfold retireStationCommand
  split
  · exact .inl rfl
  · next n _ =>
    split
    · refine withStation_cases (fun o => o.state = s ∨ ∃ n r q, s.Retires o n r q) (.inl rfl) (.inl rfl) fun r hr ha => ?_
      exact .inr ⟨n, r, retireGraceful_retires s n r hr (of_decide_eq_true ha)⟩
    · split
      · refine withStation_cases (fun o => o.state = s ∨ ∃ n r q, s.Retires o n r q) (.inl rfl) (.inl rfl) fun r hr ha => ?_
        exact .inr ⟨n, r, retireImmediate_retires s n r hr (of_decide_eq_true ha)⟩
      · exact .inl rfl

end Sys2Proof.Machine

/-! ## TAKE NOTICE and the commands that leave the life states alone -/

namespace Sys2Proof.Machine

-- One theorem after the other: each thread of its own would take a stack.
set_option Elab.async false

open Sys2Proof.Claims

/-- What a TAKE NOTICE that finds a notice does: the head of the list leaves it, and its record is taken (R157, R158). -/
structure State.Takes (s : State) (o : CommandOutcome) (n : StationNo) (rest : List StationNo) : Prop where
  head : s.noticeList = n :: rest
  records : ∀ m, o.state.record m = if m = n then (s.record n).bind takenRecord else s.record m
  noticeList : o.state.noticeList = rest
  surroundings : o.state.surroundings = s.surroundings

theorem takeNotice_cases (p : ParamBlock) (s : State) :
    (takeNoticeCommand p s).state = s ∨ ∃ n rest, s.Takes (takeNoticeCommand p s) n rest := by
  unfold takeNoticeCommand
  split
  · exact .inl rfl
  · next n rest hl =>
    refine .inr ⟨n, rest, ?_⟩
    split
    · next hr =>
      refine ⟨hl, fun m => ?_, rfl, rfl⟩
      rw [hr]
      split
      · next e => rw [e]; exact hr
      · rfl
    · next r hr =>
      refine ⟨hl, fun m => ?_, rfl, rfl⟩
      rw [hr]
      exact s.record_setRecord n m (takenRecord r)

/-- TAKE NOTICE keeps the law of the notice list: the head leaves the list and its set is empty or its record FREE. -/
theorem State.Takes.noticeListLaw {s : State} {o : CommandOutcome} {n : StationNo} {rest : List StationNo} (h : s.Takes o n rest)
    (law : s.noticeListLaw) : o.state.noticeListLaw := by
  obtain ⟨nodup, listed⟩ := law
  rw [h.head, List.nodup_cons] at nodup
  rw [h.head] at listed
  refine ⟨h.noticeList ▸ nodup.2, fun m => ?_⟩
  rw [h.noticeList, h.records]
  by_cases e : m = n
  · subst e
    have emptied : ∀ r, (s.record m).bind takenRecord = some r → r.notices = NoticeSet.none := by
      intro r hr
      obtain ⟨r', _, ht⟩ := Option.bind_eq_some_iff.mp hr
      unfold takenRecord at ht
      split at ht
      · cases ht
      · exact (Option.some.inj ht) ▸ rfl
    simp only [if_true]
    exact ⟨fun hm => absurd hm nodup.1, fun ⟨r, hr, hn⟩ => absurd (emptied r hr) hn⟩
  · rw [if_neg e, ← listed m, List.mem_cons]
    simp [e]

/-! ## The other commands -/

theorem detachCommand_evolves (p : ParamBlock) (s : State) : s.RecordsEvolve (detachCommand p s).state := by
  unfold detachCommand
  split
  · have reset := s.resetTransfers_evolves.trans (State.forStations_evolves State.detachMode_evolves stationNumbers _)
    generalize s.resetTransfers.forStations stationNumbers State.detachMode = t at reset
    exact reset.toRecordsEvolve.trans (.of_frame rfl rfl)
  · exact .refl s

theorem attachCommand_evolves (p : ParamBlock) (s : State) : s.RecordsEvolve (attachCommand p s).state := by
  unfold attachCommand
  split
  · exact .refl s
  · exact .of_frame rfl rfl

/-- The commands that neither DEFINE, RETIRE nor TAKE NOTICE, and that leave the attach state alone. -/
theorem adjustStationCommand_evolves (p : ParamBlock) (s : State) : s.Evolves (adjustStationCommand p s).state := by
  unfold adjustStationCommand
  split
  · exact .refl s
  · next n _ =>
    split
    · exact .refl s
    · exact withStation_cases (fun o => s.Evolves o.state) (.refl s) (.refl s) fun _ _ _ =>
        s.updateRecord_evolves_fields n _ fun _ => by simp

theorem readStationCommand_evolves (p : ParamBlock) (s : State) : s.Evolves (readStationCommand p s).state := by
  unfold readStationCommand
  split
  · exact .refl s
  · exact withStation_cases (fun o => s.Evolves o.state) (.refl s) (.refl s) fun _ _ _ => .of_frame rfl rfl rfl

theorem setStatusCommand_evolves (p : ParamBlock) (s : State) : s.Evolves (setStatusCommand p s).state := by
  unfold setStatusCommand
  split
  · exact .refl s
  · next n _ =>
    split
    · exact .refl s
    · exact withStation_cases (fun o => s.Evolves o.state) (.refl s) (.refl s) fun _ _ _ =>
        s.updateRecord_evolves_fields n _ fun _ => by simp

theorem requestServiceCommand_evolves (p : ParamBlock) (s : State) : s.Evolves (requestServiceCommand p s).state := by
  unfold requestServiceCommand
  split
  · exact .refl s
  · next n _ =>
    have asks : s.Evolves (s.updateRecord n (fun r => { r with request := .asking, status := p[1].setWidth 7 })) :=
      s.updateRecord_evolves_fields n _ fun _ => by simp
    split
    · exact .refl s
    · refine withStation_cases (fun o => s.Evolves o.state) (.refl s) (.refl s) fun r _ _ => ?_
      split
      · exact .refl s
      · exact asks
      · exact asks

theorem withdrawRequestCommand_evolves (p : ParamBlock) (s : State) : s.Evolves (withdrawRequestCommand p s).state := by
  unfold withdrawRequestCommand
  split
  · exact .refl s
  · next n _ =>
    exact withStation_cases (fun o => s.Evolves o.state) (.refl s) (.refl s) fun _ _ _ =>
      s.updateRecord_evolves_fields n _ fun _ => by simp

theorem returnToLocalCommand_evolves (p : ParamBlock) (s : State) : s.Evolves (returnToLocalCommand p s).state := by
  unfold returnToLocalCommand
  split
  · exact .refl s
  · next n _ =>
    refine withStation_cases (fun o => s.Evolves o.state) (.refl s) (.refl s) fun r _ _ => ?_
    split
    · exact s.updateRecord_evolves_fields n _ fun _ => by simp
    · exact .refl s
    · exact .refl s
    · exact .refl s

theorem postOutboundCommand_evolves (p : ParamBlock) (s : State) : s.Evolves (postOutboundCommand p s).state := by
  unfold postOutboundCommand
  split
  · exact .refl s
  · next n _ =>
    dsimp only
    split
    · exact .refl s
    · split
      · exact .refl s
      · refine withStation_cases (fun o => s.Evolves o.state) (.refl s) (.refl s) fun r _ _ => ?_
        split
        · exact .refl s
        · split
          · exact .refl s
          · split
            · exact .refl s
            · exact s.updateRecord_evolves_fields n _ fun _ => by simp

theorem cancelOutboundCommand_evolves (p : ParamBlock) (s : State) : s.Evolves (cancelOutboundCommand p s).state := by
  unfold cancelOutboundCommand
  split
  · exact .refl s
  · next n _ =>
    refine withStation_cases (fun o => s.Evolves o.state) (.refl s) (.refl s) fun r _ _ => ?_
    split
    · exact s.updateRecord_evolves_fields n _ fun _ => by simp
    · exact s.updateRecord_evolves_fields n _ fun _ => by simp
    · exact .refl s
    · exact .refl s

theorem releaseInboundCommand_evolves (p : ParamBlock) (s : State) : s.Evolves (releaseInboundCommand p s).state := by
  unfold releaseInboundCommand
  split
  · exact .refl s
  · next n _ =>
    refine withStation_cases (fun o => s.Evolves o.state) (.refl s) (.refl s) fun r _ _ => ?_
    have emptied : s.Evolves (s.updateRecord n (fun r => { r with inbound := .empty })) :=
      s.updateRecord_evolves_fields n _ fun _ => by simp
    split
    · dsimp only
      split
      · exact emptied
      · next g _ =>
        split
        · exact emptied.trans (State.deliverStaged_evolves _ n g)
        · exact emptied
    · exact .refl s

theorem readHoldCommand_evolves (p : ParamBlock) (s : State) : s.Evolves (readHoldCommand p s).state := by
  unfold readHoldCommand
  split
  · split <;> exact .refl s
  · split
    · exact .refl s
    · refine withStation_cases (fun o => s.Evolves o.state) (.refl s) (.refl s) fun r _ _ => ?_
      split <;> exact .refl s

theorem answerHoldCommand_evolves (p : ParamBlock) (s : State) : s.Evolves (answerHoldCommand p s).state := by
  unfold answerHoldCommand
  split
  · exact .refl s
  · split
    · exact .refl s
    · refine withStation_cases (fun o => s.Evolves o.state) (.refl s) (.refl s) fun r _ _ => ?_
      split
      · exact .refl s
      · next h _ =>
        split
        · exact s.answerWith_evolves h _
        · exact .refl s

theorem forceTriggerCommand_evolves (p : ParamBlock) (s : State) : s.Evolves (forceTriggerCommand p s).state := by
  unfold forceTriggerCommand
  split
  · split
    · exact .refl s
    · exact .of_frame rfl rfl rfl
  · exact .refl s

/-- What holds of every command of the table and of an unknown code holds of the action of any code. -/
theorem commandAction_cases (P : Byte → (ParamBlock → State → CommandOutcome) → Prop)
    (attach : P 0x01 attachCommand) (detach : P 0x02 detachCommand) (define : P 0x10 defineStationCommand)
    (adjust : P 0x11 adjustStationCommand) (readStation : P 0x12 readStationCommand) (retire : P 0x13 retireStationCommand)
    (setStatus : P 0x20 setStatusCommand) (request : P 0x21 requestServiceCommand) (withdraw : P 0x22 withdrawRequestCommand)
    (toLocal : P 0x28 returnToLocalCommand) (post : P 0x30 postOutboundCommand) (cancel : P 0x31 cancelOutboundCommand)
    (release : P 0x38 releaseInboundCommand) (take : P 0x40 takeNoticeCommand) (readHold : P 0x48 readHoldCommand)
    (answer : P 0x49 answerHoldCommand) (readRoute : P 0x50 readRouteCommand) (limit : P 0x58 setHoldLimitCommand)
    (force : P 0x60 forceTriggerCommand) (unknown : ∀ code, P code unknownCommandAction) (code : Byte) :
    P code (commandAction code) := by
  have test {c : Byte} {a b : ParamBlock → State → CommandOutcome} (ha : P c a) (hb : P code b) :
      P code (if code = c then a else b) := by
    split
    · next e => exact e ▸ ha
    · exact hb
  exact test attach <| test detach <| test define <| test adjust <| test readStation <| test retire <| test setStatus <|
    test request <| test withdraw <| test toLocal <| test post <| test cancel <| test release <| test take <| test readHold <|
    test answer <| test readRoute <| test limit <| test force (unknown code)

/-- The commands whose completion can take a record into or out of the table, or out of ONLINE. -/
def changesLife (code : Byte) : Prop := code = 0x10 ∨ code = 0x13 ∨ code = 0x40

/-- Every other command changes the records as `State.RecordsEvolve` says. -/
theorem commandAction_evolves (code : Byte) (p : ParamBlock) (s : State) (h : ¬ changesLife code) :
    s.RecordsEvolve (commandAction code p s).state := by
  refine commandAction_cases (fun code act => ¬ changesLife code → s.RecordsEvolve (act p s).state)
    ?attach ?detach ?define ?adjust ?readStation ?retire ?setStatus ?request ?withdraw ?toLocal ?post ?cancel ?release ?take
    ?readHold ?answer ?readRoute ?limit ?force ?unknown code h
  case define => exact fun h => absurd (.inl rfl) h
  case retire => exact fun h => absurd (.inr (.inl rfl)) h
  case take => exact fun h => absurd (.inr (.inr rfl)) h
  case attach => exact fun _ => attachCommand_evolves p s
  case detach => exact fun _ => detachCommand_evolves p s
  case adjust => exact fun _ => (adjustStationCommand_evolves p s).toRecordsEvolve
  case readStation => exact fun _ => (readStationCommand_evolves p s).toRecordsEvolve
  case setStatus => exact fun _ => (setStatusCommand_evolves p s).toRecordsEvolve
  case request => exact fun _ => (requestServiceCommand_evolves p s).toRecordsEvolve
  case withdraw => exact fun _ => (withdrawRequestCommand_evolves p s).toRecordsEvolve
  case toLocal => exact fun _ => (returnToLocalCommand_evolves p s).toRecordsEvolve
  case post => exact fun _ => (postOutboundCommand_evolves p s).toRecordsEvolve
  case cancel => exact fun _ => (cancelOutboundCommand_evolves p s).toRecordsEvolve
  case release => exact fun _ => (releaseInboundCommand_evolves p s).toRecordsEvolve
  case readHold => exact fun _ => (readHoldCommand_evolves p s).toRecordsEvolve
  case answer => exact fun _ => (answerHoldCommand_evolves p s).toRecordsEvolve
  case readRoute => exact fun _ => .refl s
  case limit => exact fun _ => .of_frame rfl rfl
  case force => exact fun _ => (forceTriggerCommand_evolves p s).toRecordsEvolve
  case unknown => exact fun _ _ => .refl s

/-! ## The rows of commands -/

/-- What a row of a host command can be: lost, an overrun, or the completion of the command in hand or of the one it brings. -/
theorem State.issue_cases (P : State → Prop) (s : State) (code : Byte) (act : ParamBlock → State → CommandOutcome)
    (lost : s.nrstLow = true → P s) (overrun : s.nrstLow = false → s.busyEngine = true → P s.commandOverrun)
    (inHand : ∀ p, s.nrstLow = false → s.engine = .busy code p → P (act p s).finish)
    (fresh : s.nrstLow = false → s.busyEngine = false → P (act s.params (s.accept code)).finish) : P (s.issue code act) := by
  cases hn : s.nrstLow with
  | true => rw [s.issue_lost code act hn]; exact lost hn
  | false =>
    cases he : s.engine with
    | busy c p =>
      by_cases hc : c = code
      · subst hc
        rw [s.issue_inHand c p act hn he]
        exact inHand p hn he
      · rw [s.issue_overrun code c p act hn he hc]
        exact overrun hn (by simp [State.busyEngine, he])
    | idle =>
      have hb : s.busyEngine = false := by simp [State.busyEngine, he]
      rw [s.issue_ready code act hn hb]; exact fresh hn hb
    | done =>
      have hb : s.busyEngine = false := by simp [State.busyEngine, he]
      rw [s.issue_ready code act hn hb]; exact fresh hn hb

/-- The same of a row of RETIRE STATION, which writes its mode first. -/
theorem State.issueRetire_cases (P : State → Prop) (s : State) (mode : Byte) (act : ParamBlock → State → CommandOutcome)
    (lost : s.nrstLow = true → P s) (overrun : s.nrstLow = false → s.busyEngine = true → P s.commandOverrun)
    (inHand : ∀ p, s.nrstLow = false → s.engine = .busy 0x13 p → P (act p s).finish)
    (fresh : s.nrstLow = false → s.busyEngine = false →
      P (act (s.params.set 1 mode) (({ s with params := s.params.set 1 mode } : State).accept 0x13)).finish) :
    P (s.issueRetire mode act) := by
  cases hn : s.nrstLow with
  | true => rw [State.issueRetire, if_pos hn]; exact lost hn
  | false =>
    cases he : s.engine with
    | busy c p =>
      have hb : s.busyEngine = true := by simp [State.busyEngine, he]
      simp only [State.issueRetire, hn, he, Bool.false_eq_true, if_false]
      split
      · next hc => exact inHand p hn (hc.1 ▸ he)
      · exact overrun hn hb
    | idle =>
      have hb : s.busyEngine = false := by simp [State.busyEngine, he]
      rw [s.issueRetire_ready mode act hn hb]; exact fresh hn hb
    | done =>
      have hb : s.busyEngine = false := by simp [State.busyEngine, he]
      rw [s.issueRetire_ready mode act hn hb]; exact fresh hn hb

end Sys2Proof.Machine

/-! ## Rows of frames, of time and of registers -/

namespace Sys2Proof.Machine

-- One theorem after the other: each thread of its own would take a stack.
set_option Elab.async false

open Sys2Proof.Claims

theorem State.linkFault_evolves (s : State) (k : FaultKind) : s.RecordsEvolve (s.linkFault k) := by
  unfold State.linkFault
  split
  · exact .refl s
  · exact .of_frame rfl rfl

theorem State.damagedRun_evolves (s : State) : s.RecordsEvolve s.damagedRun :=
  State.RecordsEvolve.trans (t := s.frameOver) (.of_frame rfl rfl) (State.linkFault_evolves _ _)

theorem State.startBit_evolves (s : State) : s.RecordsEvolve s.startBit := .of_frame rfl rfl

theorem State.frameOver_evolves (s : State) : s.RecordsEvolve s.frameOver := .of_frame rfl rfl

theorem State.judge_evolves (s : State) (f : Option ControllerFrame) : s.RecordsEvolve (s.judge f) := by
  unfold State.judge
  dsimp only
  split
  · exact s.frameOver_evolves.trans (State.linkFault_evolves _ _)
  · split
    · exact s.frameOver_evolves.trans (State.linkFault_evolves _ _)
    · exact s.frameOver_evolves.trans (State.takeFrame_evolves _ _).toRecordsEvolve

theorem State.atRunEnd_evolves (s : State) (f : State → State) (h : ∀ t : State, t.RecordsEvolve (f t)) :
    s.RecordsEvolve (s.atRunEnd f) :=
  s.atRunEnd_cases f _ (.refl s) (h s) (s.startBit_evolves.trans (h _))

theorem State.judgeBytes_evolves (s : State) (type : Byte) (body : List Byte) (check : Byte) :
    s.RecordsEvolve (s.judgeBytes type body check) := by
  unfold State.judgeBytes
  split
  · exact s.damagedRun_evolves
  · split
    · exact s.frameOver_evolves.trans (State.linkFault_evolves _ _)
    · split
      · exact s.frameOver_evolves
      · exact s.judge_evolves _

theorem State.trailingRun_evolves (s : State) (after : List LinkChar) : s.RecordsEvolve (s.trailingRun after) := by
  unfold State.trailingRun
  split
  · exact .refl s
  · exact s.startBit_evolves.trans (State.damagedRun_evolves _)

theorem State.runEnds_evolves (s : State) (run : LinkRun) : s.RecordsEvolve (s.runEnds run) := by
  cases run with
  | afterIdle chars =>
    unfold State.runEnds
    refine s.atRunEnd_evolves _ fun t => ?_
    split
    · exact t.damagedRun_evolves
    · exact (t.judgeBytes_evolves _ _ _).trans (State.trailingRun_evolves _ _)
  | afterCheck chars => exact s.atRunEnd_evolves _ State.damagedRun_evolves

theorem State.frameStart_evolves (s t : State) (h : execFrameStart s = .next t) : s.RecordsEvolve t := by
  obtain rfl := Host.Outcome.next.inj h
  split
  · split
    · exact .refl s
    · exact s.startBit_evolves
    · exact s.damagedRun_evolves.trans (State.startBit_evolves _)
  · exact .refl s

theorem State.idleGap_evolves (s t : State) (h : execIdleGap s = .next t) : s.RecordsEvolve t := by
  obtain rfl := Host.Outcome.next.inj h
  split
  · split
    · exact .of_frame rfl rfl
    · exact .refl s
    · exact s.damagedRun_evolves
  · exact .refl s

theorem State.sendReply_evolves (s t : State) (h : execSendReply s = .next t) : s.RecordsEvolve t := by
  obtain rfl := Host.Outcome.next.inj h
  split
  · exact .of_frame rfl rfl
  · exact .refl s

theorem State.responderFrame_evolves (s : State) (body : List Byte) :
    s.RecordsEvolve (s.atRunEnd (fun t => if body.length ≤ 40 then t.frameOver else t.damagedRun)) := by
  refine s.atRunEnd_evolves _ fun t => ?_
  split
  · exact t.frameOver_evolves
  · exact t.damagedRun_evolves

theorem State.frameEnds_evolves (s : State) (f : Option ControllerFrame) : s.RecordsEvolve (s.frameEnds f) :=
  s.atRunEnd_evolves _ fun t => t.judge_evolves f

theorem State.millisecond_evolves (s : State) : s.Evolves s.expireHolds.expireStage.tick :=
  s.expireHolds_evolves.trans <| (State.expireStage_evolves _).trans (State.tick_evolves _)

theorem State.readAccess_evolves (s : State) (reg : BitVec 4) (f : State → State) (h : s.RecordsEvolve (f s)) :
    s.RecordsEvolve (s.readAccess reg f) := by
  unfold State.readAccess
  split
  · exact .of_frame rfl rfl
  · exact h.trans (.of_frame rfl rfl)

theorem State.access_evolves (s : State) (f : State → State) (h : s.RecordsEvolve (f s)) : s.RecordsEvolve (s.access f) := by
  unfold State.access
  split
  · exact .refl s
  · exact h

theorem State.readResult_evolves (s : State) :
    s.RecordsEvolve (if s.engine = .done then { s with engine := .idle } else s) := by
  split
  · exact .of_frame rfl rfl
  · exact .refl s

theorem State.accessRefused_evolves (s : State) (a : BitVec 13) : s.RecordsEvolve (s.accessRefused a) := by
  unfold State.accessRefused
  split
  · exact .refl s
  · exact .of_frame rfl rfl

theorem State.passDataRead_evolves (s : State) : s.RecordsEvolve s.passDataRead := by
  unfold State.passDataRead
  split
  · exact (s.accessRefused_evolves _).trans (.of_frame rfl rfl)
  · exact .of_frame rfl rfl

theorem State.writeData_evolves (s : State) (v : Byte) : s.RecordsEvolve (s.writeData v) := by
  unfold State.writeData
  split
  · exact (s.accessRefused_evolves _).trans (.of_frame rfl rfl)
  · exact .of_frame rfl rfl

theorem State.writeParamIndex_evolves (s : State) (v : Byte) : s.RecordsEvolve (s.writeParamIndex v) := by
  unfold State.writeParamIndex
  split <;> exact .of_frame rfl rfl

theorem State.writeParamData_evolves (s : State) (v : Byte) : s.RecordsEvolve (s.writeParamData v) := by
  unfold State.writeParamData
  split <;> exact .of_frame rfl rfl

theorem State.writeCommand_evolves (s : State) (v : Byte) : s.RecordsEvolve (s.writeCommand v) := by
  unfold State.writeCommand
  split <;> exact .of_frame rfl rfl

theorem State.writeRegister_evolves (s : State) (reg : BitVec 4) (v : Byte) : s.RecordsEvolve (s.writeRegister reg v) := by
  unfold State.writeRegister
  split
  · exact s.writeCommand_evolves v
  · exact s.writeParamIndex_evolves v
  · exact s.writeParamData_evolves v
  · exact .of_frame rfl rfl
  · exact .of_frame rfl rfl
  · exact s.writeData_evolves v
  · exact .of_frame rfl rfl
  · exact .of_frame rfl rfl
  · exact .refl s

/-! ## What a command of the queue can do to the records -/

/-- The row completes a command that can change life states: the command `code` acts, at its row or at the completion of the command in
hand, on a state with the records and notices of this one. -/
def State.Completes (s : State) (c : Instr) (t : State) : Prop :=
  ∃ code p u, changesLife code ∧ completes s c = some code ∧ u.stations = s.stations ∧ u.noticeList = s.noticeList ∧
    u.lockout = s.lockout ∧ t = (commandAction code p u).finish

theorem CommandOutcome.finish_evolves (o : CommandOutcome) : o.state.RecordsEvolve o.finish := .of_frame rfl rfl

/-- A row of a command that leaves the life states alone. -/
theorem State.issue_evolves (s : State) (code : Byte) (act : ParamBlock → State → CommandOutcome)
    (h : ∀ p (t : State), t.RecordsEvolve (act p t).state) : s.RecordsEvolve (s.issue code act) :=
  State.issue_cases _ s code act (fun _ => .refl s) (fun _ _ => .of_frame rfl rfl)
    (fun p _ _ => (h p s).trans (CommandOutcome.finish_evolves _))
    fun _ _ => State.RecordsEvolve.trans (t := s.accept code) (.of_frame rfl rfl)
      ((h s.params _).trans (CommandOutcome.finish_evolves _))

/-- A row of any command. -/
theorem State.issue_action_cases (s : State) (code : Byte) (c : Instr) (hc : completes s c = some code) :
    s.RecordsEvolve (s.issue code (commandAction code)) ∨ s.Completes c (s.issue code (commandAction code)) := by
  by_cases hl : changesLife code
  · exact State.issue_cases (fun t => s.RecordsEvolve t ∨ s.Completes c t) s code _ (fun _ => .inl (.refl s))
      (fun _ _ => .inl (.of_frame rfl rfl)) (fun p _ _ => .inr ⟨code, p, s, hl, hc, rfl, rfl, rfl, rfl⟩)
      fun _ _ => .inr ⟨code, s.params, s.accept code, hl, hc, rfl, rfl, rfl, rfl⟩
  · exact .inl (s.issue_evolves code _ fun p t => commandAction_evolves code p t hl)

theorem State.issueRetire_action_cases (s : State) (mode : Byte) (c : Instr) (hc : completes s c = some 0x13) :
    s.RecordsEvolve (s.issueRetire mode retireStationCommand) ∨ s.Completes c (s.issueRetire mode retireStationCommand) :=
  have hl : changesLife 0x13 := .inr (.inl rfl)
  State.issueRetire_cases (fun t => s.RecordsEvolve t ∨ s.Completes c t) s mode _ (fun _ => .inl (.refl s))
    (fun _ _ => .inl (.of_frame rfl rfl)) (fun p _ _ => .inr ⟨0x13, p, s, hl, hc, rfl, rfl, rfl, rfl⟩)
    fun _ _ => .inr ⟨0x13, s.params.set 1 mode, State.accept { s with params := s.params.set 1 mode } 0x13, hl, hc,
      rfl, rfl, rfl, rfl⟩

theorem execCommandCompletion_cases (s t : State) (h : execCommandCompletion s = .next t) :
    s.RecordsEvolve t ∨ s.Completes .commandCompletion t := by
  obtain rfl := Host.Outcome.next.inj h
  split
  · next code p he =>
    by_cases hl : changesLife code
    · exact .inr ⟨code, p, s, hl, by simp [completes, he], rfl, rfl, rfl, rfl⟩
    · exact .inl ((commandAction_evolves code p s hl).trans (CommandOutcome.finish_evolves _))
  · exact .inl (.refl s)
  · exact .inl (.refl s)

/-- All that a command of the queue can do to the records, but for a hardware reset: they evolve, or DEFINE STATION, RETIRE STATION or TAKE
NOTICE completes. -/
theorem exec_cases (c : Instr) (s t : State) (h : exec c s = .next t) (hreset : ∀ p, c ≠ .hardwareReset p) :
    s.RecordsEvolve t ∨ s.Completes c t := by
  cases c with
  | hardwareReset p => exact absurd rfl (hreset p)
  | commandCompletion => exact execCommandCompletion_cases s t h
  | defineStation => exact Host.Outcome.next.inj h ▸ s.issue_action_cases 0x10 _ rfl
  | takeNotice => exact Host.Outcome.next.inj h ▸ s.issue_action_cases 0x40 _ rfl
  | unknownCommand code => exact Host.Outcome.next.inj h ▸ s.issue_action_cases code _ rfl
  | retireStationGraceful => exact Host.Outcome.next.inj h ▸ s.issueRetire_action_cases 0 _ rfl
  | retireStationImmediate => exact Host.Outcome.next.inj h ▸ s.issueRetire_action_cases 1 _ rfl
  | route talker listeners => exact .inl (Host.Outcome.next.inj h ▸ s.frameEnds_evolves _)
  | data endMark body => exact .inl (Host.Outcome.next.inj h ▸ s.frameEnds_evolves _)
  | fetch => exact .inl (Host.Outcome.next.inj h ▸ s.frameEnds_evolves _)
  | poll a => exact .inl (Host.Outcome.next.inj h ▸ s.frameEnds_evolves _)
  | clear scope => exact .inl (Host.Outcome.next.inj h ▸ s.frameEnds_evolves _)
  | trigger => exact .inl (Host.Outcome.next.inj h ▸ s.frameEnds_evolves _)
  | remote on => exact .inl (Host.Outcome.next.inj h ▸ s.frameEnds_evolves _)
  | lockout => exact .inl (Host.Outcome.next.inj h ▸ s.frameEnds_evolves _)
  | localFrame => exact .inl (Host.Outcome.next.inj h ▸ s.frameEnds_evolves _)
  | resetLink => exact .inl (Host.Outcome.next.inj h ▸ s.frameEnds_evolves _)
  | privateFrame code body => exact .inl (Host.Outcome.next.inj h ▸ s.frameEnds_evolves _)
  | responderFrame isStatus body => exact .inl (Host.Outcome.next.inj h ▸ s.responderFrame_evolves body)
  | frameDiscarded run => exact .inl (Host.Outcome.next.inj h ▸ s.runEnds_evolves run)
  | sendReply => exact .inl (s.sendReply_evolves t h)
  | replySent => exact .inl (Host.Outcome.next.inj h ▸ .of_frame rfl rfl)
  | holdExpiry => exact .inl (Host.Outcome.next.inj h ▸ s.expireHolds_evolves.toRecordsEvolve)
  | stageExpiry => exact .inl (Host.Outcome.next.inj h ▸ s.expireStage_evolves.toRecordsEvolve)
  | millisecondStep => exact .inl (Host.Outcome.next.inj h ▸ s.millisecond_evolves.toRecordsEvolve)
  | attach => exact .inl (Host.Outcome.next.inj h ▸ s.issue_evolves _ _ attachCommand_evolves)
  | detach => exact .inl (Host.Outcome.next.inj h ▸ s.issue_evolves _ _ detachCommand_evolves)
  | adjustStation =>
    exact .inl (Host.Outcome.next.inj h ▸ s.issue_evolves _ _ fun p t => (adjustStationCommand_evolves p t).toRecordsEvolve)
  | readStation =>
    exact .inl (Host.Outcome.next.inj h ▸ s.issue_evolves _ _ fun p t => (readStationCommand_evolves p t).toRecordsEvolve)
  | setStatus =>
    exact .inl (Host.Outcome.next.inj h ▸ s.issue_evolves _ _ fun p t => (setStatusCommand_evolves p t).toRecordsEvolve)
  | requestService =>
    exact .inl (Host.Outcome.next.inj h ▸ s.issue_evolves _ _ fun p t => (requestServiceCommand_evolves p t).toRecordsEvolve)
  | withdrawRequest =>
    exact .inl (Host.Outcome.next.inj h ▸ s.issue_evolves _ _ fun p t => (withdrawRequestCommand_evolves p t).toRecordsEvolve)
  | returnToLocal =>
    exact .inl (Host.Outcome.next.inj h ▸ s.issue_evolves _ _ fun p t => (returnToLocalCommand_evolves p t).toRecordsEvolve)
  | postOutbound =>
    exact .inl (Host.Outcome.next.inj h ▸ s.issue_evolves _ _ fun p t => (postOutboundCommand_evolves p t).toRecordsEvolve)
  | cancelOutbound =>
    exact .inl (Host.Outcome.next.inj h ▸ s.issue_evolves _ _ fun p t => (cancelOutboundCommand_evolves p t).toRecordsEvolve)
  | releaseInbound =>
    exact .inl (Host.Outcome.next.inj h ▸ s.issue_evolves _ _ fun p t => (releaseInboundCommand_evolves p t).toRecordsEvolve)
  | readHold => exact .inl (Host.Outcome.next.inj h ▸ s.issue_evolves _ _ fun p t => (readHoldCommand_evolves p t).toRecordsEvolve)
  | answerHold =>
    exact .inl (Host.Outcome.next.inj h ▸ s.issue_evolves _ _ fun p t => (answerHoldCommand_evolves p t).toRecordsEvolve)
  | readRoute => exact .inl (Host.Outcome.next.inj h ▸ s.issue_evolves _ _ fun _ t => .refl t)
  | setHoldLimit => exact .inl (Host.Outcome.next.inj h ▸ s.issue_evolves _ _ fun _ _ => .of_frame rfl rfl)
  | forceTrigger =>
    exact .inl (Host.Outcome.next.inj h ▸ s.issue_evolves _ _ fun p t => (forceTriggerCommand_evolves p t).toRecordsEvolve)
  | readResult => exact .inl (Host.Outcome.next.inj h ▸ s.readAccess_evolves _ _ s.readResult_evolves)
  | paramDataRead => exact .inl (Host.Outcome.next.inj h ▸ s.readAccess_evolves _ _ (.of_frame rfl rfl))
  | dataRead => exact .inl (Host.Outcome.next.inj h ▸ s.readAccess_evolves _ _ s.passDataRead_evolves)
  | paramIndexWrite v => exact .inl (Host.Outcome.next.inj h ▸ s.access_evolves _ (s.writeParamIndex_evolves v))
  | paramDataWrite v => exact .inl (Host.Outcome.next.inj h ▸ s.access_evolves _ (s.writeParamData_evolves v))
  | dataWrite v => exact .inl (Host.Outcome.next.inj h ▸ s.access_evolves _ (s.writeData_evolves v))
  | irqEnableWrite v => exact .inl (Host.Outcome.next.inj h ▸ s.access_evolves _ (.of_frame rfl rfl))
  | deviceNoticeWrite v => exact .inl (Host.Outcome.next.inj h ▸ s.access_evolves _ (.of_frame rfl rfl))
  | registerWrite reg v => exact .inl (Host.Outcome.next.inj h ▸ s.access_evolves _ (s.writeRegister_evolves reg v))
  | frameStart => exact .inl (s.frameStart_evolves t h)
  | idleGap => exact .inl (s.idleGap_evolves t h)
  | nrstRelease => exact .inl (Host.Outcome.next.inj h ▸ .of_frame rfl rfl)

/-! ## The laws of the addresses and the regions -/

/-- The law of the addresses needs only that every station ONLINE after was ONLINE before with the same key. -/
theorem State.addressLaw_of_origin {s t : State} (h : s.addressLaw)
    (origin : ∀ n q, t.record n = some q → q.life = .online →
      ∃ r, s.record n = some r ∧ r.life = .online ∧ ∀ a, q.matchesRoute a = r.matchesRoute a) : t.addressLaw := by
  intro n m q q' a hn hm ln lm ma ma'
  obtain ⟨r, hr, lr, er⟩ := origin n q hn ln
  obtain ⟨r', hr', lr', er'⟩ := origin m q' hm lm
  exact h n m r r' a hr hr' lr lr' (er a ▸ ma) (er' a ▸ ma')

theorem StationRecord.Ages.matchesRoute {r q : StationRecord} (h : r.Ages q) (a : Address) : q.matchesRoute a = r.matchesRoute a := by
  simp only [StationRecord.matchesRoute, h.unit, h.width, h.policy]

/-- The law of the regions needs only that every station ONLINE or RETIRING after was so before with the same regions. -/
theorem State.regionLaw_of_origin {s t : State} (h : s.regionLaw)
    (origin : ∀ n q, t.record n = some q → q.life ≠ .retired →
      ∃ r, s.record n = some r ∧ r.life ≠ .retired ∧ ∀ i, q.region i = r.region i) : t.regionLaw := by
  constructor
  · intro n q i g hn ln hg
    obtain ⟨r, hr, lr, er⟩ := origin n q hn ln
    exact h.1 n r i g hr lr (er i ▸ hg)
  · intro n m q q' i j g g' a hn hm ln lm hg hg'
    obtain ⟨r, hr, lr, er⟩ := origin n q hn ln
    obtain ⟨r', hr', lr', er'⟩ := origin m q' hm lm
    exact h.2 n m r r' i j g g' a hr hr' lr lr' (er i ▸ hg) (er' j ▸ hg')

theorem StationRecord.Ages.region {r q : StationRecord} (h : r.Ages q) (hl : q.life ≠ .retired) (i : Bool) :
    q.region i = r.region i := by
  obtain ⟨inRegion, outRegion⟩ := h.regions hl
  cases i <;> simp [StationRecord.region, inRegion, outRegion]

/-- Every record that stands after the change aged from one that stood before it. -/
def State.Ages (s t : State) : Prop := ∀ n q, t.record n = some q → ∃ r, s.record n = some r ∧ r.Ages q

theorem State.Ages.addressLaw {s t : State} (h : s.Ages t) (law : s.addressLaw) : t.addressLaw :=
  State.addressLaw_of_origin law fun n q hq lq =>
    let ⟨r, hr, ages⟩ := h n q hq
    ⟨r, hr, ages.online lq, ages.matchesRoute⟩

theorem State.Ages.regionLaw {s t : State} (h : s.Ages t) (law : s.regionLaw) : t.regionLaw :=
  State.regionLaw_of_origin law fun n q hq lq =>
    let ⟨r, hr, ages⟩ := h n q hq
    ⟨r, hr, ages.live lq, ages.region lq⟩

theorem State.Ages.retiredNoticeLaw {s t : State} (h : s.Ages t) (law : s.retiredNoticeLaw) : t.retiredNoticeLaw :=
  fun n q hq =>
    let ⟨r, hr, ages⟩ := h n q hq
    ages.retiredNotice (law n r hr)

theorem State.RecordsEvolve.ages {s t : State} (h : s.RecordsEvolve t) : s.Ages t := fun _ _ hq =>
  let ⟨r, hr, evolves⟩ := h.origin hq
  ⟨r, hr, evolves.toAges⟩

theorem State.Retires.stateAges {s : State} {o : CommandOutcome} {n : StationNo} {r q : StationRecord} (h : s.Retires o n r q) :
    s.Ages o.state := by
  intro m p hp
  rw [h.records] at hp
  split at hp
  · next e =>
    obtain rfl := Option.some.inj hp
    exact ⟨r, e ▸ h.found, h.ages⟩
  · exact ⟨p, hp, .refl p⟩

/-- A record taken ages, its set being cleared only while it is not RETIRED (R158). -/
theorem takenRecord_ages {r q : StationRecord} (h : takenRecord r = some q) : r.Ages q := by
  unfold takenRecord at h
  split at h
  · cases h
  · next hn =>
    obtain rfl := Option.some.inj h
    constructor <;> simp_all [NoticeSet.none]

theorem State.Takes.stateAges {s : State} {o : CommandOutcome} {n : StationNo} {rest : List StationNo} (h : s.Takes o n rest) :
    s.Ages o.state := by
  intro m p hp
  rw [h.records] at hp
  split at hp
  · next e =>
    obtain ⟨r, hr, ht⟩ := Option.bind_eq_some_iff.mp hp
    exact ⟨r, e ▸ hr, takenRecord_ages ht⟩
  · exact ⟨p, hp, .refl p⟩

/-- What stands after a DEFINE STATION that succeeds: the new record and those there were. -/
theorem record_define {u : State} {n m : StationNo} {d : Definition} {q : StationRecord} (b : Bool)
    (h : (u.setRecord n (some (newRecord d b))).record m = some q) : (m = n ∧ q = newRecord d b) ∨ (m ≠ n ∧ u.record m = some q) := by
  rw [State.record_setRecord] at h
  split at h
  · next e => exact .inl ⟨e, (Option.some.inj h).symm⟩
  · next e => exact .inr ⟨e, h⟩

/-- A definition admitted keeps the law of the addresses (R12). -/
theorem State.Admits.addressLaw {u : State} {d : Definition} {n : StationNo} (h : u.Admits d n) (b : Bool) (law : u.addressLaw) :
    (u.setRecord n (some (newRecord d b))).addressLaw := by
  intro m m' q q' a hm hm' lm lm' ma ma'
  rcases record_define b hm with ⟨rfl, rfl⟩ | ⟨ne, hq⟩ <;> rcases record_define b hm' with ⟨rfl, rfl⟩ | ⟨ne', hq'⟩
  · rfl
  · exact absurd ma' (h.key_disjoint ⟨hq', lm'⟩ b a ma)
  · exact absurd ma (h.key_disjoint ⟨hq, lm⟩ b a ma')
  · exact law m m' q q' a hq hq' lm lm' ma ma'

/-- A definition admitted keeps the law of the regions (R13). -/
theorem State.Admits.regionLaw {u : State} {p : ParamBlock} {n : StationNo} (h : u.Admits (definitionOf p) n)
    (pass : ∀ k, fieldPasses p k) (b : Bool) (law : u.regionLaw) :
    (u.setRecord n (some (newRecord (definitionOf p) b))).regionLaw := by
  constructor
  · intro m q i g hm lm hg
    rcases record_define b hm with ⟨_, rfl⟩ | ⟨_, hq⟩
    · exact definitionOf_region_range pass b hg
    · exact law.1 m q i g hq lm hg
  · intro m m' q q' i j g g' a hm hm' lm lm' hg hg' ha ha'
    rcases record_define b hm with ⟨rfl, rfl⟩ | ⟨ne, hq⟩ <;> rcases record_define b hm' with ⟨rfl, rfl⟩ | ⟨ne', hq'⟩
    · refine ⟨rfl, ?_⟩
      cases i <;> cases j
      · rfl
      · exact absurd ha (h.own_disjoint hg' hg a ha')
      · exact absurd ha' (h.own_disjoint hg hg' a ha)
      · rfl
    · exact absurd ha' (h.pages_disjoint ne' hq' lm' b hg hg' a ha)
    · exact absurd ha (h.pages_disjoint ne hq lm b hg' hg a ha')
    · exact law.2 m m' q q' i j g g' a hq hq' lm lm' hg hg' ha ha'

/-- What a command of the queue does to the records: they age, or one is defined. -/
theorem exec_ages_or_defines (c : Instr) (s t : State) (h : exec c s = .next t) :
    s.Ages t ∨ ∃ p, ∃ u : State, ∃ n, (∀ k, fieldPasses p k) ∧ u.stations = s.stations ∧ u.Admits (definitionOf p) n ∧
      t.stations = (u.setRecord n (some (newRecord (definitionOf p) u.lockout))).stations := by
  by_cases hreset : ∃ p, c = .hardwareReset p
  · obtain ⟨p, rfl⟩ := hreset
    obtain rfl := Host.Outcome.next.inj h
    refine .inl fun n q hq => ?_
    rw [State.record_congr (s := State.reset) (by rfl)] at hq
    simp [State.record, State.reset, Vector.get] at hq
  · rcases exec_cases c s t h (fun p e => hreset ⟨p, e⟩) with evolves | ⟨code, p, u, hl, -, hs, -, -, rfl⟩
    · exact .inl evolves.ages
    · have same (n : StationNo) : u.record n = s.record n := State.record_congr hs n
      have here (o : CommandOutcome) (ages : u.Ages o.state) : s.Ages o.finish := fun n q hq => same n ▸ ages n q hq
      rcases hl with rfl | rfl | rfl
      · rcases defineStation_cases p u with e | ⟨n, pass, admits, e⟩
        · exact .inl (here _ fun n q hq => ⟨q, State.record_congr (congrArg State.stations e) n ▸ hq, .refl q⟩)
        · exact .inr ⟨p, u, n, pass, hs, admits, congrArg (fun o => CommandOutcome.state o |>.stations) e⟩
      · rcases retireStation_cases p u with e | ⟨n, r, q, retires⟩
        · exact .inl (here _ fun n q hq => ⟨q, State.record_congr (congrArg State.stations e) n ▸ hq, .refl q⟩)
        · exact .inl (here _ retires.stateAges)
      · rcases takeNotice_cases p u with e | ⟨n, rest, takes⟩
        · exact .inl (here _ fun n q hq => ⟨q, State.record_congr (congrArg State.stations e) n ▸ hq, .refl q⟩)
        · exact .inl (here _ takes.stateAges)

theorem State.addressLaw_congr {s t : State} (hs : t.stations = s.stations) (h : s.addressLaw) : t.addressLaw := by
  simpa only [State.addressLaw, State.record, hs] using h

theorem State.regionLaw_congr {s t : State} (hs : t.stations = s.stations) (h : s.regionLaw) : t.regionLaw := by
  simpa only [State.regionLaw, State.record, hs] using h

theorem exec_keeps_addressLaw (c : Instr) (s t : State) (law : s.addressLaw) (h : exec c s = .next t) : t.addressLaw := by
  rcases exec_ages_or_defines c s t h with ages | ⟨p, u, n, _, hs, admits, ht⟩
  · exact ages.addressLaw law
  · exact State.addressLaw_congr ht (admits.addressLaw u.lockout (State.addressLaw_congr hs law))

theorem exec_keeps_regionLaw (c : Instr) (s t : State) (law : s.regionLaw) (h : exec c s = .next t) : t.regionLaw := by
  rcases exec_ages_or_defines c s t h with ages | ⟨p, u, n, pass, hs, admits, ht⟩
  · exact ages.regionLaw law
  · exact State.regionLaw_congr ht (admits.regionLaw pass u.lockout (State.regionLaw_congr hs law))

/-- A law of the records that every command keeps, every step keeps. -/
theorem step_keeps (P : State → Prop) (congr : ∀ s rest, P s → P { s with pending := rest })
    (keeps : ∀ c s t, P s → exec c s = .next t → P t) (s t : State) (law : P s) (h : step s = .next t) : P t := by
  cases hp : s.pending with
  | nil => exact Host.Outcome.next.inj (step_nil s hp ▸ h) ▸ law
  | cons c rest => exact keeps c _ t (congr s rest law) (step_cons s c rest hp ▸ h)

/-- Settles O6: the records only age, except for a DEFINE STATION, whose key conflicts with none. -/
theorem stepKeepsAddresses : Obligations.StepKeepsAddresses :=
  step_keeps State.addressLaw (fun _ _ => id) exec_keeps_addressLaw

/-- Settles O7: the records only age, except for a DEFINE STATION, whose pages conflict with none. -/
theorem stepKeepsRegions : Obligations.StepKeepsRegions :=
  step_keeps State.regionLaw (fun _ _ => id) exec_keeps_regionLaw

end Sys2Proof.Machine

/-! # The laws of the route, the holds, the stage and the records

`State.Laws` holds the laws of R59, R76, R102, R21 and the like of one state, with two exceptions that a happening opens and closes again: `late`,
the stations whose retirement is still to be reported (R20), and `portless`, the stations in tentative places whose PORT hold has not been raised
yet or has just left the list (R67). -/

namespace Sys2Proof.Machine

-- One theorem after the other: each thread of its own would take a stack.
set_option Elab.async false

open Sys2Proof.Claims

/-! ## One record -/

/-- A well-formed record whose regions lie within the 256 pages (R4). -/
structure StationRecord.Sound (r : StationRecord) : Prop where
  wellFormed : r.wellFormed
  range : r.life ≠ .retired → ∀ i g, r.region i = some g → 1 ≤ g.count ∧ g.count ≤ 64 ∧ g.first.val + g.count ≤ 256

/-- The control mode of an ONLINE record follows the two flags (R138). -/
def StationRecord.modeFits (remote lockout : Bool) (r : StationRecord) : Prop :=
  r.life = .online →
    (remote = false → r.mode = .unlockedLocal) ∧
    (remote = true → lockout = false → r.mode = .unlockedLocal ∨ r.mode = .unlockedRemote) ∧
    (lockout = true → r.mode = .lockedLocal ∨ r.mode = .lockedRemote)

/-- A change of a record that no law of the route, the holds and the stage can see. -/
structure StationRecord.Keeps (remote lockout : Bool) (r q : StationRecord) : Prop where
  life : q.life = r.life
  policy : q.policy = r.policy
  mayTalk : q.mayTalk = r.mayTalk
  mayListen : q.mayListen = r.mayListen
  accepted : q.acceptedPort ≠ none → r.acceptedPort ≠ none
  complete : r.inbound.isComplete = true → q.inbound.isComplete = true
  sound : r.Sound → q.Sound
  modes : r.modeFits remote lockout → q.modeFits remote lockout

theorem StationRecord.Keeps.refl {remote lockout : Bool} (r : StationRecord) : r.Keeps remote lockout r := by
  constructor <;> simp

theorem StationRecord.Keeps.trans {remote lockout : Bool} {r q p : StationRecord} (h : r.Keeps remote lockout q)
    (g : q.Keeps remote lockout p) : r.Keeps remote lockout p where
  life := g.life.trans h.life
  policy := g.policy.trans h.policy
  mayTalk := g.mayTalk.trans h.mayTalk
  mayListen := g.mayListen.trans h.mayListen
  accepted e := h.accepted (g.accepted e)
  complete e := g.complete (h.complete e)
  sound e := g.sound (h.sound e)
  modes e := g.modes (h.modes e)

/-! ## The laws of a state -/

/-- The laws of the records, the route, the holds, the stage, the retirements and memory, with the retirements in `late` still to be
reported and the PORT holds of `portless` missing. -/
structure State.Laws (late portless : List StationNo) (s : State) : Prop where
  flags : s.lockout = true → s.remoteEnable = true
  records : ∀ n r, s.record n = some r → r.Sound ∧ r.modeFits s.remoteEnable s.lockout
  onePlace : ∀ i j p q, s.place i = some p → s.place j = some q → p.station = q.station → i = j
  occupants : ∀ i p, s.place i = some p → ∃ r, s.record p.station = some r ∧ r.life ≠ .retired ∧
    (if i = none then r.mayTalk = true else r.mayListen = true) ∧ (p.tentative = true → r.policy = .openPort)
  accepted : ∀ n r, s.record n = some r → r.acceptedPort ≠ none → ∃ i, s.place i = some ⟨n, false⟩
  oneHold : (s.holds.map (fun h => h.station)).Nodup
  holders : ∀ h ∈ s.holds, ∃ r, s.record h.station = some r ∧ r.life ≠ .retired
  ports : ∀ n, (∃ i, s.place i = some ⟨n, true⟩) ↔ n ∈ portless ∨ ∃ h ∈ s.holds, h.station = n ∧ ∃ u q, h.kind = .port u q
  timers : ∀ h ∈ s.holds, ∀ t, h.remaining = some t → 1 ≤ t ∧ t ≤ 255
  copy : s.privateCopy ≠ none ↔ ∃ h ∈ s.holds, h.kind = .privateFrame
  stage : s.stageLaw
  retiring : ∀ n r, n ∉ late → s.record n = some r → r.life = .retiring → Obliged s n
  memory : Memory.wf s.memory = true

theorem LifeState.ne_retired_iff (l : LifeState) : l ≠ .retired ↔ l = .online ∨ l = .retiring := by cases l <;> simp

theorem State.isLive_iff (s : State) (n : StationNo) : s.isLive n = true ↔ ∃ r, s.record n = some r ∧ r.life ≠ .retired := by
  simp only [State.isLive, Bool.or_eq_true, State.hasLife_iff, LifeState.ne_retired_iff, and_or_left, exists_or]

theorem placeHolds_iff (p : Option Place) (n : StationNo) : placeHolds p n = true ↔ ∃ q, p = some q ∧ q.station = n := by
  cases p <;> simp [placeHolds]

theorem mem_laneNumbers (i : LaneNo) : i ∈ laneNumbers := by fin_cases i <;> decide

theorem State.hasPlace_iff (s : State) (n : StationNo) : s.hasPlace n = true ↔ Placed s n := by
  simp only [State.hasPlace, Bool.or_eq_true, List.any_eq_true, placeHolds_iff, mem_laneNumbers, true_and, Placed, Option.exists]
  rfl

theorem State.pendingHold_eq_none (s : State) (n : StationNo) : s.pendingHold n = none ↔ ¬ Held s n := by
  simp [State.pendingHold, Held]

theorem State.isOwed_iff (s : State) (n : StationNo) : s.isOwed n = true ↔ Owed s n := by
  unfold State.isOwed Owed
  cases s.stage <;> simp

/-- A station has a seat, a pending hold or a stage obligation (R19). -/
theorem State.hasObligation_iff (s : State) (n : StationNo) : s.hasObligation n = true ↔ Obliged s n := by
  have held : (s.pendingHold n).isSome = true ↔ Held s n := by
    rw [Option.isSome_iff_ne_none, ne_eq, State.pendingHold_eq_none, Classical.not_not]
  simp only [State.hasObligation, Bool.or_eq_true, State.hasPlace_iff, held, State.isOwed_iff, Obliged, or_assoc]

/-- A state within all the laws has these, without exceptions. -/
theorem State.Inv.laws {s : State} (h : s.Inv) : s.Laws [] [] where
  flags := h.modes.1
  records n r hr := ⟨⟨h.records n r hr, fun hl i g hg => h.regions.1 n r i g hr hl hg⟩, h.modes.2 n r hr⟩
  onePlace := h.route.1
  occupants := h.route.2.1
  accepted := h.route.2.2
  oneHold := h.holds.1
  holders k hk := (s.isLive_iff k.station).mp (h.holds.2.1 k hk)
  ports n := by simpa using h.holds.2.2.1 n
  timers := h.holds.2.2.2.1
  copy := h.holds.2.2.2.2
  stage := h.stage
  retiring n r _ hr hl := (s.hasObligation_iff n).mp (h.retiring n ((s.hasLife_iff n _).mpr ⟨r, hr, hl⟩))
  memory := h.memory

/-- These laws with the remaining ones are all the laws. -/
theorem State.Laws.inv {s : State} (h : s.Laws [] []) (noticeList : s.noticeListLaw) (retiredNotice : s.retiredNoticeLaw)
    (addresses : s.addressLaw) (regions : s.regionLaw) (link : s.linkLaw) (host : s.hostLaw) : s.Inv where
  noticeList := noticeList
  retiredNotice := retiredNotice
  modes := ⟨h.flags, fun n r hr => (h.records n r hr).2⟩
  addresses := addresses
  regions := regions
  records n r hr := (h.records n r hr).1.wellFormed
  route := ⟨h.onePlace, h.occupants, h.accepted⟩
  holds := ⟨h.oneHold, fun k hk => (s.isLive_iff k.station).mpr (h.holders k hk), fun n => by simpa using h.ports n, h.timers, h.copy⟩
  stage := h.stage
  retiring n hl := by
    obtain ⟨r, hr, e⟩ := (s.hasLife_iff n _).mp hl
    exact (s.hasObligation_iff n).mpr (h.retiring n r (by simp) hr e)
  link := link
  host := host
  memory := h.memory

/-! ## Changes of the records -/

/-- The route, the holds with the PRIVATE frame copy, and the stage are the same. -/
structure State.SameBlocks (s t : State) : Prop where
  talkSeat : t.talkSeat = s.talkSeat
  lanes : t.lanes = s.lanes
  holds : t.holds = s.holds
  privateCopy : t.privateCopy = s.privateCopy
  stage : t.stage = s.stage

theorem State.SameBlocks.trans {s t u : State} (h : s.SameBlocks t) (g : t.SameBlocks u) : s.SameBlocks u :=
  ⟨g.talkSeat.trans h.talkSeat, g.lanes.trans h.lanes, g.holds.trans h.holds, g.privateCopy.trans h.privateCopy, g.stage.trans h.stage⟩

theorem State.lane_congr {s t : State} (h : t.lanes = s.lanes) (i : LaneNo) : t.lane i = s.lane i := by
  rw [State.lane, State.lane, h]

theorem State.place_congr {s t : State} (seat : t.talkSeat = s.talkSeat) (lanes : t.lanes = s.lanes) (i : Option LaneNo) :
    t.place i = s.place i := by
  cases i with
  | none => exact seat
  | some l => exact State.lane_congr lanes l

theorem State.SameBlocks.place {s t : State} (h : s.SameBlocks t) (i : Option LaneNo) : t.place i = s.place i :=
  State.place_congr h.talkSeat h.lanes i

theorem State.SameBlocks.obliged {s t : State} (h : s.SameBlocks t) (n : StationNo) : Obliged t n ↔ Obliged s n := by
  simp only [Obliged, Placed, Held, Owed, h.place, h.holds, h.stage]

/-- What a record must keep for the laws of the route and the holds, while its station has an obligation. -/
structure StationRecord.KeepsRole (r q : StationRecord) : Prop where
  live : r.life ≠ .retired → q.life ≠ .retired
  policy : q.policy = r.policy
  mayTalk : q.mayTalk = r.mayTalk
  mayListen : q.mayListen = r.mayListen

/-- A change of records that leaves the route, the holds and the stage as they are keeps the laws, if every record after it is sound, and those
of the stations with an obligation keep what it rests on. -/
theorem State.Laws.of_records {late late' portless : List StationNo} {s t : State} (h : s.Laws late portless) (same : s.SameBlocks t)
    (flags : t.lockout = true → t.remoteEnable = true) (memory : Memory.wf t.memory = true)
    (records : ∀ n q, t.record n = some q → q.Sound ∧ q.modeFits t.remoteEnable t.lockout ∧
      (q.acceptedPort ≠ none → ∃ r, s.record n = some r ∧ r.acceptedPort ≠ none) ∧
      (q.life = .retiring → n ∈ late' ∨ Obliged s n))
    (obliged : ∀ n r, s.record n = some r → Obliged s n → ∃ q, t.record n = some q ∧ r.KeepsRole q)
    (owed : ∀ n r q, s.record n = some r → t.record n = some q → Owed s n → r.inbound.isComplete = true → q.inbound.isComplete = true) :
    t.Laws late' portless where
  flags := flags
  records n q hq := ⟨(records n q hq).1, (records n q hq).2.1⟩
  onePlace i j p q hp hq := by rw [same.place] at hp hq; exact h.onePlace i j p q hp hq
  occupants i p hp := by
    rw [same.place] at hp
    obtain ⟨r, hr, live, role, open'⟩ := h.occupants i p hp
    obtain ⟨q, hq, keeps⟩ := obliged p.station r hr (.inl ⟨i, p, hp, rfl⟩)
    exact ⟨q, hq, keeps.live live, by rw [keeps.mayTalk, keeps.mayListen]; exact role, by rw [keeps.policy]; exact open'⟩
  accepted n q hq ha := by
    obtain ⟨r, hr, hra⟩ := (records n q hq).2.2.1 ha
    simp only [same.place]
    exact h.accepted n r hr hra
  oneHold := by rw [same.holds]; exact h.oneHold
  holders k hk := by
    rw [same.holds] at hk
    obtain ⟨r, hr, live⟩ := h.holders k hk
    obtain ⟨q, hq, keeps⟩ := obliged k.station r hr (.inr (.inl ⟨k, hk, rfl⟩))
    exact ⟨q, hq, keeps.live live⟩
  ports n := by simp only [same.place, same.holds]; exact h.ports n
  timers := by rw [same.holds]; exact h.timers
  copy := by rw [same.privateCopy, same.holds]; exact h.copy
  stage g hg := by
    rw [same.stage] at hg
    obtain ⟨length, content, owing, ascending, timer, waiting⟩ := h.stage g hg
    refine ⟨length, content, owing, ascending, timer, fun n hn => ?_⟩
    obtain ⟨⟨l, hl⟩, free, r, hr, complete⟩ := waiting n hn
    obtain ⟨q, hq, _⟩ := obliged n r hr (.inr (.inr ⟨g, hg, hn⟩))
    refine ⟨⟨l, by rw [State.lane_congr same.lanes]; exact hl⟩, ?_, q, hq, owed n r q hr hq ⟨g, hg, hn⟩ complete⟩
    rw [State.pendingHold, same.holds]; exact free
  retiring n q hn hq hl := (same.obliged n).mpr (((records n q hq).2.2.2 hl).resolve_left hn)
  memory := memory

/-- The records are touched in ways no law can see, and the other blocks are the same. -/
structure State.Retouches (s t : State) : Prop extends State.SameBlocks s t where
  records : ∀ n, Option.Rel (StationRecord.Keeps s.remoteEnable s.lockout) (s.record n) (t.record n)
  remoteEnable : t.remoteEnable = s.remoteEnable
  lockout : t.lockout = s.lockout
  memory : Memory.wf s.memory = true → Memory.wf t.memory = true

theorem relKeeps_refl {remote lockout : Bool} (o : Option StationRecord) : Option.Rel (StationRecord.Keeps remote lockout) o o := by
  cases o with
  | none => exact .none
  | some r => exact .some (.refl r)

/-- A change of what none of these laws sees. -/
theorem State.Retouches.of_frame {s t : State} (same : s.SameBlocks t) (stations : t.stations = s.stations)
    (remoteEnable : t.remoteEnable = s.remoteEnable) (lockout : t.lockout = s.lockout) (memory : t.memory = s.memory) :
    s.Retouches t :=
  ⟨same, fun n => by rw [State.record_congr stations]; exact relKeeps_refl _, remoteEnable, lockout, by rw [memory]; exact id⟩

theorem State.Retouches.refl (s : State) : s.Retouches s := .of_frame ⟨rfl, rfl, rfl, rfl, rfl⟩ rfl rfl rfl rfl

theorem State.Retouches.trans {s t u : State} (h : s.Retouches t) (g : t.Retouches u) : s.Retouches u where
  toSameBlocks := h.toSameBlocks.trans g.toSameBlocks
  records n := by
    have hn := h.records n
    have gn := g.records n
    rw [h.remoteEnable, h.lockout] at gn
    cases hs : s.record n <;> cases ht : t.record n <;> cases hu : u.record n <;> rw [hs, ht] at hn <;> rw [ht, hu] at gn <;>
      cases hn <;> cases gn
    · exact .none
    · next a b => exact .some (a.trans b)
  remoteEnable := g.remoteEnable.trans h.remoteEnable
  lockout := g.lockout.trans h.lockout
  memory e := g.memory (h.memory e)

/-- What a record becomes. -/
theorem State.Retouches.outcome {s t : State} (h : s.Retouches t) {n : StationNo} {r : StationRecord} (e : s.record n = some r) :
    ∃ q, t.record n = some q ∧ r.Keeps s.remoteEnable s.lockout q := by
  have hn := h.records n
  rw [e] at hn
  cases ht : t.record n with
  | none => rw [ht] at hn; cases hn
  | some q => rw [ht] at hn; cases hn with | some g => exact ⟨q, rfl, g⟩

/-- What a record was. -/
theorem State.Retouches.origin {s t : State} (h : s.Retouches t) {n : StationNo} {q : StationRecord} (e : t.record n = some q) :
    ∃ r, s.record n = some r ∧ r.Keeps s.remoteEnable s.lockout q := by
  have hn := h.records n
  rw [e] at hn
  cases hs : s.record n with
  | none => rw [hs] at hn; cases hn
  | some r => rw [hs] at hn; cases hn with | some g => exact ⟨r, rfl, g⟩

theorem State.Laws.retouch {late portless : List StationNo} {s t : State} (h : s.Laws late portless) (g : s.Retouches t) :
    t.Laws late portless := by
  refine h.of_records g.toSameBlocks (by rw [g.lockout, g.remoteEnable]; exact h.flags) (g.memory h.memory) (fun n q hq => ?_)
    (fun n r hr _ => ?_) fun n r q hr hq _ => ?_
  · obtain ⟨r, hr, keeps⟩ := g.origin hq
    obtain ⟨sound, modes⟩ := h.records n r hr
    refine ⟨keeps.sound sound, ?_, fun ha => ⟨r, hr, keeps.accepted ha⟩, fun hl => ?_⟩
    · rw [g.remoteEnable, g.lockout]; exact keeps.modes modes
    · by_cases late : n ∈ late
      · exact .inl late
      · exact .inr (h.retiring n r late hr (keeps.life ▸ hl))
  · obtain ⟨q, hq, keeps⟩ := g.outcome hr
    exact ⟨q, hq, by rw [keeps.life]; exact id, keeps.policy, keeps.mayTalk, keeps.mayListen⟩
  · obtain ⟨q', hq', keeps⟩ := g.outcome hr
    obtain rfl := Option.some.inj (hq.symm.trans hq')
    exact keeps.complete

/-- A change of one record. -/
theorem State.updateRecord_retouches (s : State) (n : StationNo) (f : StationRecord → StationRecord)
    (hf : ∀ r, s.record n = some r → r.Keeps s.remoteEnable s.lockout (f r)) : s.Retouches (s.updateRecord n f) where
  talkSeat := rfl
  lanes := rfl
  holds := rfl
  privateCopy := rfl
  stage := rfl
  records m := by
    rw [State.record_updateRecord]
    split
    · next e =>
      subst e
      cases hs : s.record m with
      | none => exact .none
      | some r => exact .some (hf r hs)
    · exact relKeeps_refl _
  remoteEnable := rfl
  lockout := rfl
  memory := id

/-- A pass whose single changes are of this kind, each under a condition that such changes leave alone. -/
theorem State.foldl_retouches {α : Type} (f : State → α → State) (C : State → α → Prop)
    (hf : ∀ (s : State) a, C s a → s.Retouches (f s a)) (hC : ∀ (s t : State) a, s.Retouches t → C s a → C t a) (as : List α) (s : State)
    (h : ∀ a ∈ as, C s a) : s.Retouches (as.foldl f s) := by
  induction as generalizing s with
  | nil => exact .refl s
  | cons a as ih =>
    have first := hf s a (h a (List.mem_cons_self ..))
    exact first.trans (ih _ fun b hb => hC s _ b first (h b (List.mem_cons_of_mem _ hb)))

/-- The same without a condition. -/
theorem State.foldl_retouches_all {α : Type} (f : State → α → State) (hf : ∀ (s : State) a, s.Retouches (f s a)) (as : List α) (s : State) :
    s.Retouches (as.foldl f s) :=
  State.foldl_retouches f (fun _ _ => True) (fun s a _ => hf s a) (fun _ _ _ _ => id) as s fun _ _ => trivial

/-- The station has a record, and it is not RETIRED. -/
def State.LiveAt (s : State) (n : StationNo) : Prop := ∃ r, s.record n = some r ∧ r.life ≠ .retired

theorem State.Retouches.liveAt {s t : State} (h : s.Retouches t) (n : StationNo) (hn : s.LiveAt n) : t.LiveAt n := by
  obtain ⟨r, hr, hl⟩ := hn
  obtain ⟨q, hq, keeps⟩ := h.outcome hr
  exact ⟨q, hq, keeps.life ▸ hl⟩

/-! ## The changes of one record that no law sees -/

/-- A change outside every field that a law speaks of. -/
theorem StationRecord.Sound.of_fields {r q : StationRecord} (unit : q.unit = r.unit) (width : q.width = r.width)
    (policy : q.policy = r.policy) (accepted : q.acceptedPort = r.acceptedPort) (mayTalk : q.mayTalk = r.mayTalk)
    (mayListen : q.mayListen = r.mayListen) (inRegion : q.inRegion = r.inRegion) (outRegion : q.outRegion = r.outRegion)
    (life : q.life = r.life) (request : q.request = r.request) (mode : q.mode = r.mode) (matched : q.lastMatched = r.lastMatched)
    (inbound : q.inbound = r.inbound) (outbound : q.outbound = r.outbound) (h : r.Sound) : q.Sound := by
  obtain ⟨wellFormed, range⟩ := h
  constructor
  · simpa only [StationRecord.wellFormed, StationRecord.inboundLaw, StationRecord.outboundLaw, unit, width, policy, accepted, mayTalk,
      mayListen, inRegion, outRegion, life, request, mode, matched, inbound, outbound] using wellFormed
  · simpa only [StationRecord.region, life, inRegion, outRegion] using range

theorem StationRecord.keeps_notices {remote lockout : Bool} (r : StationRecord) (ns : NoticeSet) :
    r.Keeps remote lockout { r with notices := ns } where
  life := rfl
  policy := rfl
  mayTalk := rfl
  mayListen := rfl
  accepted := id
  complete := id
  sound := StationRecord.Sound.of_fields rfl rfl rfl rfl rfl rfl rfl rfl rfl rfl rfl rfl rfl rfl
  modes := id

theorem State.addNotice_retouches (s : State) (n : StationNo) (k : NoticeKind) : s.Retouches (s.addNotice n k) := by
  rw [State.addNotice_frame]
  refine ⟨⟨rfl, rfl, rfl, rfl, rfl⟩, fun m => ?_, rfl, rfl, id⟩
  show Option.Rel _ (s.record m) ((s.addNotice n k).record m)
  rw [State.record_addNotice]
  split
  · next e =>
    subst e
    cases s.record m with
    | none => exact .none
    | some r => exact .some (r.keeps_notices _)
  · exact relKeeps_refl _

end Sys2Proof.Machine

/-! ## The single changes of a record -/

namespace Sys2Proof.Machine

-- One theorem after the other: each thread of its own would take a stack.
set_option Elab.async false

open Sys2Proof.Claims

theorem StationRecord.keeps_lastMatched {remote lockout : Bool} (r : StationRecord) (a : Address) (hl : r.life ≠ .retired) :
    r.Keeps remote lockout { r with lastMatched := some a } where
  life := rfl
  policy := rfl
  mayTalk := rfl
  mayListen := rfl
  accepted := id
  complete := id
  sound := fun ⟨⟨unit, roles, inRegion, outRegion, inbound, outbound, accepted, quiet, _⟩, range⟩ =>
    ⟨⟨unit, roles, inRegion, outRegion, inbound, outbound, accepted, quiet, fun e => absurd e hl⟩, range⟩
  modes := id

/-- The status byte, the hold options and the trigger line are under no law. -/
theorem StationRecord.keeps_status {remote lockout : Bool} (r : StationRecord) (b : BitVec 7) :
    r.Keeps remote lockout { r with status := b } where
  life := rfl
  policy := rfl
  mayTalk := rfl
  mayListen := rfl
  accepted := id
  complete := id
  sound := StationRecord.Sound.of_fields rfl rfl rfl rfl rfl rfl rfl rfl rfl rfl rfl rfl rfl rfl
  modes := id

theorem StationRecord.keeps_options {remote lockout : Bool} (r : StationRecord) (o : HoldOptions) (l : Option LineNo) :
    r.Keeps remote lockout { r with options := o, triggerLine := l } where
  life := rfl
  policy := rfl
  mayTalk := rfl
  mayListen := rfl
  accepted := id
  complete := id
  sound := StationRecord.Sound.of_fields rfl rfl rfl rfl rfl rfl rfl rfl rfl rfl rfl rfl rfl rfl
  modes := id

/-- The request state of a station that is not ONLINE stays QUIET (R18). -/
theorem StationRecord.keeps_request {remote lockout : Bool} (r : StationRecord) (x : RequestState) (hx : r.life ≠ .online → x = .quiet) :
    r.Keeps remote lockout { r with request := x } where
  life := rfl
  policy := rfl
  mayTalk := rfl
  mayListen := rfl
  accepted := id
  complete := id
  sound := fun ⟨⟨unit, roles, inRegion, outRegion, inbound, outbound, accepted, quiet, retired⟩, range⟩ =>
    ⟨⟨unit, roles, inRegion, outRegion, inbound, outbound, accepted, fun e => ⟨hx e, (quiet e).2⟩, retired⟩, range⟩
  modes := id

theorem StationRecord.keeps_mode {remote lockout : Bool} (r : StationRecord) (m : ControlMode) (hl : r.life ≠ .retired)
    (hm : r.modeFits remote lockout → r.life = .online → (remote = false → m = .unlockedLocal) ∧
      (remote = true → lockout = false → m = .unlockedLocal ∨ m = .unlockedRemote) ∧
      (lockout = true → m = .lockedLocal ∨ m = .lockedRemote)) :
    r.Keeps remote lockout { r with mode := m } where
  life := rfl
  policy := rfl
  mayTalk := rfl
  mayListen := rfl
  accepted := id
  complete := id
  sound := fun ⟨⟨unit, roles, inRegion, outRegion, inbound, outbound, accepted, quiet, _⟩, range⟩ =>
    ⟨⟨unit, roles, inRegion, outRegion, inbound, outbound, accepted, quiet, fun e => absurd e hl⟩, range⟩
  modes h := hm h

theorem StationRecord.keeps_inbound {remote lockout : Bool} (r : StationRecord) (i : Inbound)
    (hc : r.inbound.isComplete = true → i.isComplete = true) (hi : r.Sound → { r with inbound := i }.inboundLaw)
    (hr : r.life = .retired → r.inbound = .empty → i = .empty) :
    r.Keeps remote lockout { r with inbound := i } where
  life := rfl
  policy := rfl
  mayTalk := rfl
  mayListen := rfl
  accepted := id
  complete := hc
  sound := fun sound => by
    obtain ⟨⟨unit, roles, inRegion, outRegion, _, outbound, accepted, quiet, retired⟩, range⟩ := id sound
    exact ⟨⟨unit, roles, inRegion, outRegion, hi sound, outbound, accepted, quiet, fun e => ⟨hr e (retired e).1, (retired e).2⟩⟩, range⟩
  modes := id

/-- The outbound of a station that is not ONLINE stays EMPTY (R18). -/
theorem StationRecord.keeps_outbound {remote lockout : Bool} (r : StationRecord) (o : Outbound)
    (ho : r.Sound → { r with outbound := o }.outboundLaw) (hl : r.life ≠ .online → r.outbound = .empty → o = .empty) :
    r.Keeps remote lockout { r with outbound := o } where
  life := rfl
  policy := rfl
  mayTalk := rfl
  mayListen := rfl
  accepted := id
  complete := id
  sound := fun sound => by
    obtain ⟨⟨unit, roles, inRegion, outRegion, inbound, _, accepted, quiet, retired⟩, range⟩ := id sound
    exact ⟨⟨unit, roles, inRegion, outRegion, inbound, ho sound, accepted, fun e => ⟨(quiet e).1, hl e (quiet e).2⟩, retired⟩, range⟩
  modes := id

theorem StationRecord.keeps_noAcceptedPort {remote lockout : Bool} (r : StationRecord) :
    r.Keeps remote lockout { r with acceptedPort := none } where
  life := rfl
  policy := rfl
  mayTalk := rfl
  mayListen := rfl
  accepted e := absurd rfl e
  complete := id
  sound := fun ⟨⟨unit, roles, inRegion, outRegion, inbound, outbound, _, quiet, retired⟩, range⟩ =>
    ⟨⟨unit, roles, inRegion, outRegion, inbound, outbound, fun e => absurd rfl e, quiet, fun e => by
      obtain ⟨empty, mode, matched, _⟩ := retired e
      exact ⟨empty, mode, matched, rfl⟩⟩, range⟩
  modes := id

/-! ## Regions and roles -/

theorem StationRecord.Sound.inRegion_iff {r : StationRecord} (h : r.Sound) : r.inRegion ≠ none ↔ r.mayListen = true ∧ r.life ≠ .retired := by
  obtain ⟨_, _, inRegion, _⟩ := h.wellFormed
  exact inRegion

theorem StationRecord.Sound.outRegion_iff {r : StationRecord} (h : r.Sound) : r.outRegion ≠ none ↔ r.mayTalk = true ∧ r.life ≠ .retired := by
  obtain ⟨_, _, _, outRegion, _⟩ := h.wellFormed
  exact outRegion

theorem StationRecord.Sound.inboundLaw {r : StationRecord} (h : r.Sound) : r.inboundLaw := by
  obtain ⟨_, _, _, _, inbound, _⟩ := h.wellFormed
  exact inbound

theorem StationRecord.Sound.outboundLaw {r : StationRecord} (h : r.Sound) : r.outboundLaw := by
  obtain ⟨_, _, _, _, _, outbound, _⟩ := h.wellFormed
  exact outbound

theorem StationRecord.Sound.acceptedPort {r : StationRecord} (h : r.Sound) : r.acceptedPort ≠ none → r.policy = .openPort := by
  obtain ⟨_, _, _, _, _, _, accepted, _⟩ := h.wellFormed
  exact accepted

theorem StationRecord.Sound.quiet {r : StationRecord} (h : r.Sound) (hl : r.life ≠ .online) : r.request = .quiet ∧ r.outbound = .empty := by
  obtain ⟨_, _, _, _, _, _, _, quiet, _⟩ := h.wellFormed
  exact quiet hl

theorem StationRecord.Sound.retired {r : StationRecord} (h : r.Sound) (hl : r.life = .retired) :
    r.inbound = .empty ∧ r.mode = .unlockedLocal ∧ r.lastMatched = none ∧ r.acceptedPort = none := by
  obtain ⟨_, _, _, _, _, _, _, _, retired⟩ := h.wellFormed
  exact retired hl

/-- An outbound of a station without an outbound region is EMPTY. -/
theorem StationRecord.Sound.outRegion_of_outbound {r : StationRecord} (h : r.Sound) (ho : r.outbound ≠ .empty) : r.outRegion ≠ none := by
  have law := h.outboundLaw
  unfold StationRecord.outboundLaw at law
  intro none
  cases hx : r.outbound <;> rw [hx] at law ho <;> simp [none, regionCapacity] at law ho
  all_goals omega

/-! ## Clear effects and resets -/

theorem Inbound.isComplete_dropFilling (i : Inbound) (h : i.isComplete = true) : i.dropFilling.isComplete = true := by
  cases i <;> simp_all [Inbound.isComplete, Inbound.dropFilling]

theorem StationRecord.inboundLaw_dropFilling (r : StationRecord) (h : r.inboundLaw) :
    { r with inbound := r.inbound.dropFilling }.inboundLaw := by
  unfold StationRecord.inboundLaw at *
  cases hi : r.inbound <;> simp_all [Inbound.dropFilling]

theorem StationRecord.keeps_dropFilling {remote lockout : Bool} (r : StationRecord) :
    r.Keeps remote lockout { r with inbound := r.inbound.dropFilling } :=
  r.keeps_inbound _ r.inbound.isComplete_dropFilling (fun h => r.inboundLaw_dropFilling h.inboundLaw)
    fun _ e => by rw [e]; rfl

theorem StationRecord.keeps_outboundEmpty {remote lockout : Bool} (r : StationRecord) :
    r.Keeps remote lockout { r with outbound := .empty } :=
  r.keeps_outbound .empty (fun _ => trivial) fun _ _ => rfl

theorem StationRecord.outboundLaw_rewind (r : StationRecord) (h : r.Sound) : { r with outbound := r.outbound.rewind }.outboundLaw := by
  have law := h.outboundLaw
  have region := h.outRegion_of_outbound
  unfold StationRecord.outboundLaw at *
  cases ho : r.outbound <;> simp only [ho, Outbound.rewind] at law region ⊢
  case posted n e => exact law
  case sending n e c => exact ⟨region (by simp), law.1, fun e => by omega⟩

theorem StationRecord.keeps_rewind {remote lockout : Bool} (r : StationRecord) :
    r.Keeps remote lockout { r with outbound := r.outbound.rewind } :=
  r.keeps_outbound _ r.outboundLaw_rewind fun _ e => by rw [e]; rfl

theorem State.clearStation_retouches (s : State) (n : StationNo) : s.Retouches (s.clearStation n) :=
  (s.updateRecord_retouches n _ fun r _ => r.keeps_dropFilling.trans (StationRecord.keeps_outboundEmpty _)).trans
    (State.addNotice_retouches _ n _)

theorem State.resetStation_retouches (before : State) (n : StationNo) (s : State) : s.Retouches (State.resetStation before n s) := by
  have noticed (t : State) (b : Bool) (k : NoticeKind) : t.Retouches (if b then t.addNotice n k else t) := by
    split
    · exact t.addNotice_retouches n k
    · exact .refl t
  have rewound : s.Retouches (if before.isLive n then
      s.updateRecord n (fun r => { r with inbound := r.inbound.dropFilling, outbound := r.outbound.rewind }) else s) := by
    split
    · exact s.updateRecord_retouches n _ fun r _ => r.keeps_dropFilling.trans (StationRecord.keeps_rewind _)
    · exact .refl s
  exact rewound.trans <| (noticed _ _ .holdWithdrawn).trans <| (noticed _ _ .dataLost).trans <| noticed _ _ .outboundDone

theorem State.quietStation_retouches (s : State) (n : StationNo) : s.Retouches (s.quietStation n) :=
  s.updateRecord_retouches n _ fun r _ => (r.keeps_request .quiet fun _ => rfl).trans (StationRecord.keeps_outboundEmpty _)

theorem State.clearAcceptedPort_retouches (n : StationNo) (s : State) : s.Retouches (State.clearAcceptedPort n s) :=
  s.updateRecord_retouches n _ fun r _ => by
    split
    · exact r.keeps_noAcceptedPort
    · exact .refl r

theorem State.clearAcceptedPorts_retouches (s : State) : s.Retouches s.clearAcceptedPorts :=
  State.foldl_retouches_all _ (fun t n => t.clearAcceptedPort_retouches n) _ s

theorem State.writeMatch_retouches (s : State) (n : StationNo) (a : Address) (h : s.LiveAt n) : s.Retouches (s.writeMatch n a) :=
  s.updateRecord_retouches n _ fun r hr => by
    obtain ⟨q, hq, hl⟩ := h
    obtain rfl := Option.some.inj (hr.symm.trans hq)
    exact r.keeps_lastMatched a hl

/-! ## Modes -/

/-- The remote transition of a station that is not RETIRED (R66). -/
theorem State.remoteTransition_retouches (s : State) (n : StationNo) (h : s.LiveAt n) : s.Retouches (s.remoteTransition n) := by
  obtain ⟨r, hr, hl⟩ := h
  have change (m : ControlMode) (hm : r.modeFits s.remoteEnable s.lockout → r.life = .online →
      (s.remoteEnable = false → m = .unlockedLocal) ∧
      (s.remoteEnable = true → s.lockout = false → m = .unlockedLocal ∨ m = .unlockedRemote) ∧
      (s.lockout = true → m = .lockedLocal ∨ m = .lockedRemote)) :
      s.Retouches ((s.updateRecord n (fun r => { r with mode := m })).addNotice n .modeChanged) :=
    (s.updateRecord_retouches n _ fun q hq => by
      obtain rfl := Option.some.inj (hr.symm.trans hq)
      exact r.keeps_mode m hl hm).trans (State.addNotice_retouches _ n _)
  unfold State.remoteTransition
  rw [hr]
  dsimp only
  split
  · exact .refl s
  · next remote =>
    rw [Bool.not_eq_false] at remote
    split
    · next hm =>
      refine change _ fun fits ho => ?_
      obtain ⟨_, _, locked⟩ := fits ho
      simp_all
    · next hm =>
      refine change _ fun fits ho => ?_
      obtain ⟨_, unlocked, locked⟩ := fits ho
      simp_all
    · exact .refl s
    · exact .refl s

/-- LOCAL, and RETURN TO LOCAL, on one station that is not RETIRED: a mode under remote control becomes the local one of its kind. -/
theorem StationRecord.keeps_toLocal {remote lockout : Bool} (r : StationRecord) (hl : r.life ≠ .retired) {m : ControlMode}
    (hm : (r.mode = .unlockedRemote ∧ m = .unlockedLocal) ∨ (r.mode = .lockedRemote ∧ m = .lockedLocal)) :
    r.Keeps remote lockout { r with mode := m } := by
  refine r.keeps_mode m hl fun fits ho => ?_
  obtain ⟨off, unlocked, locked⟩ := fits ho
  rcases hm with ⟨e, rfl⟩ | ⟨e, rfl⟩
  · rw [e] at off unlocked locked
    exact ⟨fun _ => rfl, fun _ _ => .inl rfl, fun h => absurd (locked h) (by simp)⟩
  · rw [e] at off unlocked locked
    exact ⟨fun h => absurd (off h) (by simp), fun h h' => absurd (unlocked h h') (by simp), fun _ => .inl rfl⟩

theorem State.localStation_retouches (n : StationNo) (s : State) (h : s.LiveAt n) : s.Retouches (State.localStation n s) := by
  obtain ⟨r, hr, hl⟩ := h
  have change (m : ControlMode)
      (hm : (r.mode = .unlockedRemote ∧ m = .unlockedLocal) ∨ (r.mode = .lockedRemote ∧ m = .lockedLocal)) :
      s.Retouches (s.changeMode n m) :=
    (s.updateRecord_retouches n _ fun q hq => by
      obtain rfl := Option.some.inj (hr.symm.trans hq)
      exact r.keeps_toLocal hl hm).trans (State.addNotice_retouches _ n _)
  unfold State.localStation
  rw [hr]
  dsimp only
  split
  · next e => exact change _ (.inl ⟨e, rfl⟩)
  · next e => exact change _ (.inr ⟨e, rfl⟩)
  · exact .refl s
  · exact .refl s

end Sys2Proof.Machine

/-! ## Holds, places and obligations that come and go -/

namespace Sys2Proof.Machine

-- One theorem after the other: each thread of its own would take a stack.
set_option Elab.async false

open Sys2Proof.Claims

/-- The stations, the two flags and memory are the same. -/
structure State.SameTable (s t : State) : Prop where
  stations : t.stations = s.stations
  remoteEnable : t.remoteEnable = s.remoteEnable
  lockout : t.lockout = s.lockout
  memory : t.memory = s.memory

theorem State.SameTable.record {s t : State} (h : s.SameTable t) (n : StationNo) : t.record n = s.record n :=
  State.record_congr h.stations n

/-- The laws of the records alone. -/
theorem State.Laws.records_of_sameTable {late portless : List StationNo} {s t : State} (h : s.Laws late portless) (same : s.SameTable t)
    (n : StationNo) (r : StationRecord) (hr : t.record n = some r) : r.Sound ∧ r.modeFits t.remoteEnable t.lockout := by
  rw [same.record] at hr
  rw [same.remoteEnable, same.lockout]
  exact h.records n r hr

theorem State.Laws.flags_of_sameTable {late portless : List StationNo} {s t : State} (h : s.Laws late portless) (same : s.SameTable t) :
    t.lockout = true → t.remoteEnable = true := by
  rw [same.remoteEnable, same.lockout]
  exact h.flags

theorem State.Laws.mono_late {late late' portless : List StationNo} {s : State} (h : s.Laws late portless)
    (sub : ∀ n ∈ late, n ∈ late') : s.Laws late' portless :=
  { h with retiring := fun n r hn => h.retiring n r fun e => hn (sub n e) }

/-! ## One record replaced -/

/-- A record replaced, and the retirements to be reported changed for its station alone. -/
theorem State.Laws.replaceRecord {late late' portless : List StationNo} {s t : State} {n : StationNo} {o : Option StationRecord}
    (h : s.Laws late portless) (same : s.SameBlocks t) (remoteEnable : t.remoteEnable = s.remoteEnable)
    (lockout : t.lockout = s.lockout) (memory : t.memory = s.memory) (records : ∀ m, t.record m = if m = n then o else s.record m)
    (hlate : ∀ m, m ≠ n → m ∈ late → m ∈ late')
    (new : ∀ q, o = some q → q.Sound ∧ q.modeFits s.remoteEnable s.lockout ∧
      (q.acceptedPort ≠ none → ∃ r, s.record n = some r ∧ r.acceptedPort ≠ none) ∧ (q.life = .retiring → n ∈ late' ∨ Obliged s n))
    (obliged : ∀ r, s.record n = some r → Obliged s n → ∃ q, o = some q ∧ r.KeepsRole q)
    (owed : ∀ r q, s.record n = some r → o = some q → Owed s n → r.inbound.isComplete = true → q.inbound.isComplete = true) :
    t.Laws late' portless := by
  refine h.of_records same (by rw [remoteEnable, lockout]; exact h.flags) (by rw [memory]; exact h.memory) (fun m q hq => ?_)
    (fun m r hr hm => ?_) fun m r q hr hq hm => ?_
  · rw [remoteEnable, lockout]
    rw [records] at hq
    split at hq
    · next e => rw [e]; exact new q hq
    · next e =>
      obtain ⟨sound, fits⟩ := h.records m q hq
      refine ⟨sound, fits, fun ha => ⟨q, hq, ha⟩, fun hl => ?_⟩
      by_cases hm : m ∈ late
      · exact .inl (hlate m e hm)
      · exact .inr (h.retiring m q hm hq hl)
  · rw [records]
    split
    · next e => subst e; exact obliged r hr hm
    · exact ⟨r, hr, id, rfl, rfl, rfl⟩
  · rw [records] at hq
    split at hq
    · next e => subst e; exact owed r q hr hq hm
    · obtain rfl := Option.some.inj (hr.symm.trans hq)
      exact id

theorem StationRecord.Sound.retire {r : StationRecord} (h : r.Sound) (hq : r.request = .quiet) (ho : r.outbound = .empty) :
    r.retire.Sound := by
  obtain ⟨⟨unit, roles, _⟩, _⟩ := h
  constructor
  · refine ⟨unit, roles, ?_, ?_, ?_, ?_, ?_, ?_, ?_⟩
    · simp [StationRecord.retire]
    · simp [StationRecord.retire]
    · exact trivial
    · simp only [StationRecord.outboundLaw, StationRecord.retire, ho]
    · simp [StationRecord.retire]
    · simp [StationRecord.retire, hq, ho]
    · simp [StationRecord.retire]
  · simp [StationRecord.retire]

theorem State.becomeRetired_sameBlocks (s : State) (n : StationNo) : s.SameBlocks (s.becomeRetired n) := by
  rw [State.becomeRetired_frame]
  exact ⟨rfl, rfl, rfl, rfl, rfl⟩

theorem State.becomeRetired_flags (s : State) (n : StationNo) : (s.becomeRetired n).remoteEnable = s.remoteEnable ∧
    (s.becomeRetired n).lockout = s.lockout ∧ (s.becomeRetired n).memory = s.memory := by
  rw [State.becomeRetired_frame]
  exact ⟨rfl, rfl, rfl⟩

/-- A station without obligation becomes RETIRED (R23). -/
theorem State.Laws.becomeRetired {late portless : List StationNo} {s : State} {n : StationNo} {r : StationRecord}
    (h : s.Laws (n :: late) portless) (hr : s.record n = some r) (hq : r.request = .quiet) (ho : r.outbound = .empty)
    (free : ¬ Obliged s n) : (s.becomeRetired n).Laws late portless := by
  obtain ⟨remoteEnable, lockout, memory⟩ := s.becomeRetired_flags n
  refine h.replaceRecord (s.becomeRetired_sameBlocks n) remoteEnable lockout memory (o := some r.retire) (fun m => ?_) (fun m e hm => ?_)
    (fun q e => ?_) (fun _ _ obliged => absurd obliged free) fun _ _ _ _ owed => absurd (.inr (.inr owed)) free
  · rw [State.record_becomeRetired, hr]; rfl
  · exact (List.mem_cons.mp hm).resolve_left e
  · obtain rfl := Option.some.inj e
    exact ⟨(h.records n r hr).1.retire hq ho, by simp [StationRecord.modeFits, StationRecord.retire], by simp [StationRecord.retire],
      by simp [StationRecord.retire]⟩

/-- A report of R20 settles the retirement of its station (R21). -/
theorem State.Laws.reportRelease {late portless : List StationNo} {s : State} {n : StationNo} (h : s.Laws (n :: late) portless) :
    (State.reportRelease n s).Laws late portless := by
  unfold State.reportRelease
  split
  · next hb =>
    rw [Bool.and_eq_true, Bool.not_eq_true', ← Bool.not_eq_true, State.hasObligation_iff] at hb
    obtain ⟨hl, free⟩ := hb
    obtain ⟨r, hr, retiring⟩ := (s.hasLife_iff n .retiring).mp hl
    obtain ⟨hq, ho⟩ := (h.records n r hr).1.quiet (by simp [retiring])
    exact h.becomeRetired hr hq ho free
  · next hb =>
    rw [Bool.and_eq_true, Bool.not_eq_true', ← Bool.not_eq_true, State.hasObligation_iff, not_and_not_right] at hb
    refine { h with retiring := fun m r hm hr hl => ?_ }
    by_cases e : m = n
    · subst e; exact hb ((s.hasLife_iff m .retiring).mpr ⟨r, hr, hl⟩)
    · exact h.retiring m r (by simp [e, hm]) hr hl

/-- The reports of a list of stations settle the retirements of all of them. -/
theorem State.Laws.reportReleases {portless : List StationNo} (ns : List StationNo) {s : State} (h : s.Laws ns portless) :
    (s.forStations ns State.reportRelease).Laws [] portless := by
  induction ns generalizing s with
  | nil => exact h
  | cons n ns ih => exact ih h.reportRelease

/-! ## Holds -/

theorem State.startTimer_range (s : State) (t : Nat) (h : s.startTimer = some t) : 1 ≤ t ∧ t ≤ 255 := by
  unfold State.startTimer at h
  split at h
  · cases h
  · next hne =>
    obtain rfl := Option.some.inj h
    have positive : s.holdLimit.toNat ≠ 0 := fun e => hne ((byte_eq_iff _ 0 0).mpr e)
    have := s.holdLimit.isLt
    omega

/-- A hold raised for a station that has none and is not owed (R77), with the PRIVATE frame copy that a PRIVATE hold needs (R81). A PORT hold
takes its station off the list of those that lack one. -/
theorem State.Laws.raise {late portless portless' : List StationNo} {s t : State} {n : StationNo} {k : HoldKind}
    (h : s.Laws late portless) (same : s.SameTable t) (talkSeat : t.talkSeat = s.talkSeat) (lanes : t.lanes = s.lanes)
    (stage : t.stage = s.stage) (holds : t.holds = s.holds ++ [⟨n, k, s.holdTag, s.startTimer⟩])
    (copy : t.privateCopy ≠ none ↔ s.privateCopy ≠ none ∨ k = .privateFrame) (live : s.LiveAt n) (free : ¬ Held s n) (unowed : ¬ Owed s n)
    (ports : ∀ m, m ∈ portless ↔ m ∈ portless' ∨ (m = n ∧ ∃ u q, k = .port u q)) : t.Laws late portless' where
  flags := h.flags_of_sameTable same
  records := h.records_of_sameTable same
  onePlace i j p q hp hq := by rw [State.place_congr talkSeat lanes] at hp hq; exact h.onePlace i j p q hp hq
  occupants i p hp := by rw [same.record]; rw [State.place_congr talkSeat lanes] at hp; exact h.occupants i p hp
  accepted m r hr ha := by rw [same.record] at hr; simp only [State.place_congr talkSeat lanes]; exact h.accepted m r hr ha
  oneHold := by
    rw [holds, List.map_append, List.nodup_append]
    refine ⟨h.oneHold, List.nodup_singleton _, ?_⟩
    rintro a ha b hb rfl
    obtain ⟨k', hk', rfl⟩ := List.mem_map.mp ha
    exact free ⟨k', hk', List.mem_singleton.mp hb⟩
  holders k' hk' := by
    rw [same.record]
    rw [holds, List.mem_append, List.mem_singleton] at hk'
    rcases hk' with hk' | rfl
    · exact h.holders k' hk'
    · exact live
  ports m := by
    simp only [State.place_congr talkSeat lanes, holds, List.mem_append, List.mem_singleton, or_and_right, exists_or, exists_eq_left]
    rw [h.ports m, ports m]
    simp only [or_assoc, eq_comm (a := n)]
    exact or_congr_right or_comm
  timers k' hk' t' ht' := by
    rw [holds, List.mem_append, List.mem_singleton] at hk'
    rcases hk' with hk' | rfl
    · exact h.timers k' hk' t' ht'
    · exact s.startTimer_range t' ht'
  copy := by
    rw [copy, h.copy, holds]
    simp only [List.mem_append, List.mem_singleton, or_and_right, exists_or, exists_eq_left]
  stage g hg := by
    rw [stage] at hg
    obtain ⟨length, content, owing, ascending, timer, owed⟩ := h.stage g hg
    refine ⟨length, content, owing, ascending, timer, fun m hm => ?_⟩
    obtain ⟨⟨l, hl⟩, waits, r, hr, complete⟩ := owed m hm
    refine ⟨⟨l, by rw [State.lane_congr lanes]; exact hl⟩, ?_, r, by rw [same.record]; exact hr, complete⟩
    have ne : n ≠ m := fun e => unowed (e ▸ ⟨g, hg, hm⟩)
    rw [State.pendingHold] at waits ⊢
    rw [holds, List.find?_append, waits]
    simp [ne]
  retiring m r hm hr hl := by
    rw [same.record] at hr
    rcases h.retiring m r hm hr hl with ⟨i, p, hp, e⟩ | ⟨k', hk', e⟩ | ⟨g, hg, hm'⟩
    · exact .inl ⟨i, p, by rw [State.place_congr talkSeat lanes]; exact hp, e⟩
    · exact .inr (.inl ⟨k', by rw [holds]; exact List.mem_append_left _ hk', e⟩)
    · exact .inr (.inr ⟨g, by rw [stage]; exact hg, hm'⟩)
  memory := by rw [same.memory]; exact h.memory

/-- A hold of a kind other than PORT and PRIVATE. -/
theorem State.Laws.raiseHold {late portless : List StationNo} {s : State} {n : StationNo} {k : HoldKind} (h : s.Laws late portless)
    (port : ∀ u q, k ≠ .port u q) (other : k ≠ .privateFrame) (live : s.LiveAt n) (free : ¬ Held s n) (unowed : ¬ Owed s n) :
    (s.raiseHold n k).Laws late portless :=
  h.raise ⟨rfl, rfl, rfl, rfl⟩ rfl rfl rfl rfl (by simp [other]) live free unowed fun m => by simp [port]

/-- A PORT hold. -/
theorem State.Laws.raisePort {late portless : List StationNo} {s : State} {n : StationNo} (u : LinkUnit) (q : LinkPort)
    (h : s.Laws late (n :: portless)) (live : s.LiveAt n) (free : ¬ Held s n) (unowed : ¬ Owed s n) :
    (s.raiseHold n (.port u q)).Laws late portless :=
  h.raise ⟨rfl, rfl, rfl, rfl⟩ rfl rfl rfl rfl (by simp) live free unowed fun m => by simp [or_comm]

/-- A PRIVATE hold, raised with the PRIVATE frame copy kept. -/
theorem State.Laws.raisePrivate {late portless : List StationNo} {s : State} {n : StationNo} (c : PrivateCopy) (h : s.Laws late portless)
    (live : s.LiveAt n) (free : ¬ Held s n) (unowed : ¬ Owed s n) :
    (State.raiseHold { s with privateCopy := some c } n .privateFrame).Laws late portless :=
  h.raise ⟨rfl, rfl, rfl, rfl⟩ rfl rfl rfl rfl (by simp) live free unowed fun m => by simp

/-- The hold of a station leaves the list (R76). Its retirement is to be reported, a PORT hold leaves its place without one, and the PRIVATE
frame copy is left as the holds that remain need it. -/
theorem State.Laws.withoutHold {late portless portless' : List StationNo} {s t : State} {k : Hold} (h : s.Laws late portless)
    (hk : k ∈ s.holds) (same : s.SameTable t) (talkSeat : t.talkSeat = s.talkSeat) (lanes : t.lanes = s.lanes)
    (stage : t.stage = s.stage) (holds : t.holds = s.holds.filter (fun h => decide (h.station ≠ k.station)))
    (copy : t.privateCopy ≠ none ↔ ∃ k' ∈ t.holds, k'.kind = .privateFrame)
    (ports : ∀ m, m ∈ portless' ↔ m ∈ portless ∨ (m = k.station ∧ ∃ u q, k.kind = .port u q)) : t.Laws (k.station :: late) portless' where
  flags := h.flags_of_sameTable same
  records := h.records_of_sameTable same
  onePlace i j p q hp hq := by rw [State.place_congr talkSeat lanes] at hp hq; exact h.onePlace i j p q hp hq
  occupants i p hp := by rw [same.record]; rw [State.place_congr talkSeat lanes] at hp; exact h.occupants i p hp
  accepted m r hr ha := by rw [same.record] at hr; simp only [State.place_congr talkSeat lanes]; exact h.accepted m r hr ha
  oneHold := by rw [holds]; exact h.oneHold.sublist (List.filter_sublist.map _)
  holders k' hk' := by rw [same.record]; rw [holds] at hk'; exact h.holders k' (List.mem_of_mem_filter hk')
  ports m := by
    simp only [State.place_congr talkSeat lanes, holds, List.mem_filter, decide_eq_true_eq]
    rw [h.ports m, ports m, or_assoc]
    refine or_congr_right ⟨fun ⟨k', hk', e, port⟩ => ?_, ?_⟩
    · by_cases own : k'.station = k.station
      · obtain rfl := List.inj_on_of_nodup_map h.oneHold hk' hk own
        exact .inl ⟨e.symm, port⟩
      · exact .inr ⟨k', ⟨hk', own⟩, e, port⟩
    · rintro (⟨e, port⟩ | ⟨k', ⟨hk', _⟩, e, port⟩)
      · exact ⟨k, hk, e.symm, port⟩
      · exact ⟨k', hk', e, port⟩
  timers k' hk' := by rw [holds] at hk'; exact h.timers k' (List.mem_of_mem_filter hk')
  copy := copy
  stage g hg := by
    rw [stage] at hg
    obtain ⟨length, content, owing, ascending, timer, owed⟩ := h.stage g hg
    refine ⟨length, content, owing, ascending, timer, fun m hm => ?_⟩
    obtain ⟨⟨l, hl⟩, waits, r, hr, complete⟩ := owed m hm
    refine ⟨⟨l, by rw [State.lane_congr lanes]; exact hl⟩, ?_, r, by rw [same.record]; exact hr, complete⟩
    rw [State.pendingHold_eq_none] at waits ⊢
    rintro ⟨k', hk', e⟩
    rw [holds] at hk'
    exact waits ⟨k', List.mem_of_mem_filter hk', e⟩
  retiring m r hm hr hl := by
    rw [same.record] at hr
    rw [List.mem_cons, not_or] at hm
    rcases h.retiring m r hm.2 hr hl with ⟨i, p, hp, e⟩ | ⟨k', hk', e⟩ | ⟨g, hg, hm'⟩
    · exact .inl ⟨i, p, by rw [State.place_congr talkSeat lanes]; exact hp, e⟩
    · refine .inr (.inl ⟨k', ?_, e⟩)
      rw [holds, List.mem_filter]
      exact ⟨hk', by simpa [e] using hm.1⟩
    · exact .inr (.inr ⟨g, by rw [stage]; exact hg, hm'⟩)
  memory := by rw [same.memory]; exact h.memory

/-- The discarding of the copy leaves it exactly while a PRIVATE hold remains (R81, R88), if it was there whenever one did. -/
theorem State.discardPrivateCopy_copy (s : State) (h : (∃ k ∈ s.holds, k.kind = .privateFrame) → s.privateCopy ≠ none) :
    s.discardPrivateCopy.privateCopy ≠ none ↔ ∃ k ∈ s.discardPrivateCopy.holds, k.kind = .privateFrame := by
  unfold State.discardPrivateCopy
  split
  · next any =>
    have some : ∃ k ∈ s.holds, k.kind = .privateFrame := by simpa using any
    exact iff_of_true (h some) some
  · next any =>
    refine iff_of_false (by simp) ?_
    simpa using any

theorem State.discardPrivateCopy_frame (s : State) :
    s.discardPrivateCopy = { s with privateCopy := s.discardPrivateCopy.privateCopy } := by
  unfold State.discardPrivateCopy
  split <;> rfl

/-- Another hold's leaving does not change whether a PRIVATE one is pending. -/
theorem State.Laws.copy_without {late portless : List StationNo} {s : State} {k : Hold} (h : s.Laws late portless) (hk : k ∈ s.holds)
    (other : k.kind ≠ .privateFrame) :
    s.privateCopy ≠ none ↔ ∃ k' ∈ (s.removeHold k.station).holds, k'.kind = .privateFrame := by
  rw [h.copy]
  simp only [State.removeHold_holds, List.mem_filter, decide_eq_true_eq]
  refine ⟨fun ⟨k', hk', e⟩ => ⟨k', ⟨hk', fun own => ?_⟩, e⟩, fun ⟨k', ⟨hk', _⟩, e⟩ => ⟨k', hk', e⟩⟩
  exact other (List.inj_on_of_nodup_map h.oneHold hk' hk own ▸ e)

/-- A hold of another kind than PORT and PRIVATE is taken out. -/
theorem State.Laws.removeHold {late portless : List StationNo} {s : State} {k : Hold} (h : s.Laws late portless) (hk : k ∈ s.holds)
    (port : ∀ u q, k.kind ≠ .port u q) (other : k.kind ≠ .privateFrame) :
    (s.removeHold k.station).Laws (k.station :: late) portless :=
  h.withoutHold hk ⟨rfl, rfl, rfl, rfl⟩ rfl rfl rfl rfl (h.copy_without hk other) fun m => by simp [port]

/-- A PORT hold is taken out and leaves its place without one. -/
theorem State.Laws.removePort {late portless : List StationNo} {s : State} {k : Hold} (h : s.Laws late portless) (hk : k ∈ s.holds)
    {u : LinkUnit} {q : LinkPort} (port : k.kind = .port u q) :
    (s.removeHold k.station).Laws (k.station :: late) (k.station :: portless) :=
  h.withoutHold hk ⟨rfl, rfl, rfl, rfl⟩ rfl rfl rfl rfl (h.copy_without hk (by simp [port])) fun m => by simp [port, or_comm]

/-- A PRIVATE hold is taken out, and the copy with the last of them. -/
theorem State.Laws.removePrivate {late portless : List StationNo} {s : State} {k : Hold} (h : s.Laws late portless) (hk : k ∈ s.holds)
    (kind : k.kind = .privateFrame) : (s.removeHold k.station).discardPrivateCopy.Laws (k.station :: late) portless := by
  have copy := (s.removeHold k.station).discardPrivateCopy_copy fun ⟨k', hk', e⟩ =>
    h.copy.mpr ⟨k', List.mem_of_mem_filter hk', e⟩
  rw [State.discardPrivateCopy_frame] at copy ⊢
  exact h.withoutHold hk ⟨rfl, rfl, rfl, rfl⟩ rfl rfl rfl rfl copy fun m => by simp [kind]

/-- Without its one hold a station has none. -/
theorem State.not_held_removeHold (s : State) (n : StationNo) : ¬ Held (s.removeHold n) n := by
  rw [← State.pendingHold_eq_none]
  exact s.pendingHold_removeHold n

/-- A station with a pending hold is not owed the staged frame (R77, R102). -/
theorem State.Laws.not_owed_of_held {late portless : List StationNo} {s : State} {n : StationNo} (h : s.Laws late portless)
    (held : Held s n) : ¬ Owed s n := by
  rintro ⟨g, hg, hn⟩
  obtain ⟨_, _, _, _, _, owed⟩ := h.stage g hg
  obtain ⟨_, free, _⟩ := owed n hn
  exact (s.pendingHold_eq_none n).mp free held

/-! ## Places -/

/-- What a change of the route alone leaves in place. -/
structure State.SameButRoute (s t : State) : Prop extends State.SameTable s t where
  holds : t.holds = s.holds
  privateCopy : t.privateCopy = s.privateCopy
  stage : t.stage = s.stage

theorem vacate_eq_some {p : Option Place} {n : StationNo} {q : Place} : vacate p n = some q ↔ p = some q ∧ q.station ≠ n := by
  cases p with
  | none => simp [vacate, placeHolds]
  | some p =>
    by_cases h : p.station = n
    · simp only [vacate, placeHolds, h, decide_true, if_true, reduceCtorEq, Option.some.injEq, false_iff, not_and]
      rintro rfl; exact fun e => e h
    · simp only [vacate, placeHolds, h, decide_false, Bool.false_eq_true, if_false, Option.some.injEq]
      exact ⟨fun e => ⟨e, e ▸ h⟩, And.left⟩

/-- The place of a tentative station whose PORT hold is gone is freed (R68). -/
theorem State.Laws.freePlaces {late portless : List StationNo} {s : State} {n : StationNo} (h : s.Laws late (n :: portless))
    (hn : n ∉ portless) (hlate : n ∈ late) (free : ¬ Held s n) (unowed : ¬ Owed s n) : (s.freePlaces n).Laws late portless where
  flags := h.flags
  records := h.records
  onePlace i j p q hp hq := by
    rw [State.place_freePlaces, vacate_eq_some] at hp hq
    exact h.onePlace i j p q hp.1 hq.1
  occupants i p hp := by
    rw [State.place_freePlaces, vacate_eq_some] at hp
    exact h.occupants i p hp.1
  accepted m r hr ha := by
    obtain ⟨i, hi⟩ := h.accepted m r hr ha
    refine ⟨i, ?_⟩
    rw [State.place_freePlaces, vacate_eq_some]
    refine ⟨hi, fun e => ?_⟩
    -- The station's one place is the tentative one.
    obtain rfl : m = n := e
    obtain ⟨j, hj⟩ := (h.ports m).mpr (.inl (List.mem_cons_self ..))
    obtain rfl := h.onePlace i j _ _ hi hj rfl
    exact absurd (hi.symm.trans hj) (by simp)
  oneHold := h.oneHold
  holders := h.holders
  ports m := by
    simp only [State.place_freePlaces, vacate_eq_some]
    rw [exists_and_right, h.ports m, List.mem_cons]
    constructor
    · rintro ⟨(e | hm) | hold, ne⟩
      · exact absurd e ne
      · exact .inl hm
      · exact .inr hold
    · rintro (hm | ⟨k, hk, e, port⟩)
      · exact ⟨.inl (.inr hm), fun e => hn (e ▸ hm)⟩
      · exact ⟨.inr ⟨k, hk, e, port⟩, fun e' => free ⟨k, hk, e.trans e'⟩⟩
  timers := h.timers
  copy := h.copy
  stage g hg := by
    obtain ⟨length, content, owing, ascending, timer, owed⟩ := h.stage g hg
    refine ⟨length, content, owing, ascending, timer, fun m hm => ?_⟩
    obtain ⟨⟨l, hl⟩, rest⟩ := owed m hm
    refine ⟨⟨l, ?_⟩, rest⟩
    show (s.freePlaces n).place (some l) = _
    rw [State.place_freePlaces, vacate_eq_some]
    refine ⟨hl, fun e => unowed ⟨g, hg, ?_⟩⟩
    exact e ▸ hm
  retiring m r hm hr hl := by
    have ne : m ≠ n := fun e => hm (e ▸ hlate)
    rcases h.retiring m r hm hr hl with ⟨i, p, hp, e⟩ | other
    · exact .inl ⟨i, p, by rw [State.place_freePlaces, vacate_eq_some]; exact ⟨hp, fun e' => ne (e.symm.trans e')⟩, e⟩
    · exact .inr other
  memory := h.memory

theorem settlePlace_eq_some {p : Option Place} {n : StationNo} {q : Place} :
    settlePlace p n = some q ↔ (p = some q ∧ q.station ≠ n) ∨ (q = ⟨n, false⟩ ∧ ∃ b, p = some ⟨n, b⟩) := by
  cases p with
  | none => simp [settlePlace, placeHolds]
  | some p =>
    obtain ⟨m, b⟩ := p
    by_cases h : m = n
    · subst h
      simp only [settlePlace, placeHolds, decide_true, if_true, Option.some.injEq, Place.mk.injEq, true_and]
      constructor
      · rintro rfl; exact .inr ⟨rfl, b, rfl⟩
      · rintro (⟨rfl, ne⟩ | ⟨rfl, _⟩)
        · exact absurd rfl ne
        · rfl
    · simp only [settlePlace, placeHolds, h, decide_false, Bool.false_eq_true, if_false, Option.some.injEq, Place.mk.injEq, false_and,
        exists_false, and_false, or_false]
      exact ⟨fun e => ⟨e, e ▸ h⟩, And.left⟩

/-- The route with the tentative mark of a station cleared. -/
def State.settle (s : State) (n : StationNo) : State :=
  laneNumbers.foldl (fun t i => t.setLane i (settlePlace (t.lane i) n)) { s with talkSeat := settlePlace s.talkSeat n }

theorem State.place_settle (s : State) (n : StationNo) (i : Option LaneNo) : (s.settle n).place i = settlePlace (s.place i) n := by
  cases i with
  | none => rfl
  | some l =>
    have h : ∀ j, ({ s with talkSeat := settlePlace s.talkSeat n } : State).lane j = s.lane j := fun _ => rfl
    fin_cases l <;> simp [State.place, State.settle, laneNumbers, State.lane_setLane, h]

/-- A tentative station whose PORT hold is gone is seated and the port becomes its accepted port (R67). -/
theorem State.Laws.settle {late portless : List StationNo} {s : State} {n : StationNo} (q : LinkPort) (h : s.Laws late (n :: portless))
    (hn : n ∉ portless) (free : ¬ Held s n) :
    ((s.settle n).updateRecord n (fun r => { r with acceptedPort := some q })).Laws late portless := by
  obtain ⟨i₀, place₀⟩ := (h.ports n).mpr (.inl (List.mem_cons_self ..))
  obtain ⟨r₀, hr₀, live₀, role₀, open₀⟩ := h.occupants i₀ _ place₀
  have place (i : Option LaneNo) :
      ((s.settle n).updateRecord n (fun r => { r with acceptedPort := some q })).place i = settlePlace (s.place i) n := s.place_settle n i
  have record (m : StationNo) : ((s.settle n).updateRecord n (fun r => { r with acceptedPort := some q })).record m =
      if m = n then some { r₀ with acceptedPort := some q } else s.record m := by
    rw [State.record_updateRecord]
    show (if m = n then (s.record n).map _ else s.record m) = _
    rw [show s.record n = some r₀ from hr₀]
    rfl
  -- Whoever stands in a place stood in it before.
  have before {i : Option LaneNo} {p : Place} (hp : settlePlace (s.place i) n = some p) : ∃ p', s.place i = some p' ∧ p'.station = p.station := by
    rcases settlePlace_eq_some.mp hp with ⟨e, _⟩ | ⟨rfl, b, e⟩
    · exact ⟨p, e, rfl⟩
    · exact ⟨_, e, rfl⟩
  refine ⟨h.flags, fun m r hr => ?_, fun i j p p' hp hp' e => ?_, fun i p hp => ?_, fun m r hr ha => ?_, h.oneHold, fun k hk => ?_,
    fun m => ?_, h.timers, h.copy, fun g hg => ?_, fun m r hm hr hl => ?_, h.memory⟩
  · rw [record] at hr
    split at hr
    · obtain rfl := Option.some.inj hr
      obtain ⟨⟨⟨unit, roles, inRegion, outRegion, inbound, outbound, _, quiet, _⟩, range⟩, fits⟩ := h.records _ r₀ hr₀
      exact ⟨⟨⟨unit, roles, inRegion, outRegion, inbound, outbound, fun _ => open₀ rfl, quiet, fun e => absurd e live₀⟩, range⟩, fits⟩
    · exact h.records m r hr
  · rw [place] at hp hp'
    obtain ⟨o, ho, e₁⟩ := before hp
    obtain ⟨o', ho', e₂⟩ := before hp'
    exact h.onePlace i j o o' ho ho' (e₁.trans (e.trans e₂.symm))
  · rw [place] at hp
    rw [record]
    rcases settlePlace_eq_some.mp hp with ⟨e, ne⟩ | ⟨rfl, b, e⟩
    · rw [if_neg ne]; exact h.occupants i p e
    · obtain rfl := h.onePlace i i₀ _ _ e place₀ rfl
      exact ⟨_, if_pos rfl, live₀, role₀, fun e => by cases e⟩
  · rw [record] at hr
    simp only [place]
    split at hr
    · next e =>
      exact ⟨i₀, settlePlace_eq_some.mpr (.inr ⟨by rw [e], true, place₀⟩)⟩
    · next e =>
      obtain ⟨i, hi⟩ := h.accepted m r hr ha
      exact ⟨i, settlePlace_eq_some.mpr (.inl ⟨hi, e⟩)⟩
  · rw [record]
    split
    · exact ⟨_, rfl, live₀⟩
    · exact h.holders k hk
  · have untouched : (∃ i, settlePlace (s.place i) n = some ⟨m, true⟩) ↔ (∃ i, s.place i = some ⟨m, true⟩) ∧ m ≠ n := by
      simp [settlePlace_eq_some]
    simp only [place]
    rw [untouched, h.ports m, List.mem_cons]
    constructor
    · rintro ⟨(e | hm) | hold, ne⟩
      · exact absurd e ne
      · exact .inl hm
      · exact .inr hold
    · rintro (hm | ⟨k, hk, e, port⟩)
      · exact ⟨.inl (.inr hm), fun e => hn (e ▸ hm)⟩
      · exact ⟨.inr ⟨k, hk, e, port⟩, fun e' => free ⟨k, hk, e.trans e'⟩⟩
  · obtain ⟨length, content, owing, ascending, timer, owed⟩ := h.stage g hg
    refine ⟨length, content, owing, ascending, timer, fun m hm => ?_⟩
    obtain ⟨⟨l, hl⟩, waits, r, hr, complete⟩ := owed m hm
    have ne : m ≠ n := fun e => by
      subst e
      obtain rfl := h.onePlace (some l) i₀ _ _ hl place₀ rfl
      exact absurd ((show s.place (some l) = _ from hl).symm.trans place₀) (by simp)
    refine ⟨⟨l, (place (some l)).trans (settlePlace_eq_some.mpr (.inl ⟨hl, ne⟩))⟩, waits, r, ?_, complete⟩
    rw [record, if_neg ne]; exact hr
  · rw [record] at hr
    have obliged (free' : Obliged s m) :
        Obliged ((s.settle n).updateRecord n (fun r => { r with acceptedPort := some q })) m := by
      rcases free' with ⟨i, p, hp, e⟩ | other
      · by_cases own : p.station = n
        · exact .inl ⟨i, ⟨n, false⟩, (place i).trans (settlePlace_eq_some.mpr (.inr ⟨rfl, p.tentative, by rw [hp, ← own]⟩)), own ▸ e⟩
        · exact .inl ⟨i, p, (place i).trans (settlePlace_eq_some.mpr (.inl ⟨hp, own⟩)), e⟩
      · exact .inr other
    split at hr
    · next e =>
      obtain rfl := Option.some.inj hr
      exact obliged (h.retiring m r₀ hm (e ▸ hr₀) hl)
    · exact obliged (h.retiring m r hm hr hl)

end Sys2Proof.Machine

/-! ## Verdicts and expiry -/

namespace Sys2Proof.Machine

-- One theorem after the other: each thread of its own would take a stack.
set_option Elab.async false

open Sys2Proof.Claims

theorem State.isOnline_iff (s : State) (n : StationNo) : s.isOnline n = true ↔ ∃ r, Online s n r :=
  s.hasLife_iff n .online

theorem State.LiveAt.of_online {s : State} {n : StationNo} {r : StationRecord} (h : Online s n r) : s.LiveAt n :=
  ⟨r, h.1, by simp [h.2]⟩

/-- ACCEPT of a PORT hold that has left the list (R67). -/
theorem State.Laws.acceptPort {late portless : List StationNo} {s : State} {n : StationNo} (q : LinkPort) (h : s.Laws late (n :: portless))
    (hn : n ∉ portless) (free : ¬ Held s n) : (s.acceptPort n q).Laws late portless := by
  have seated := h.settle q hn free
  have seat : s.acceptPort n q =
      if (s.laneOf n).isSome then ((s.settle n).updateRecord n (fun r => { r with acceptedPort := some q })).remoteTransition n
      else (s.settle n).updateRecord n (fun r => { r with acceptedPort := some q }) := rfl
  rw [seat]
  split
  · refine seated.retouch (State.remoteTransition_retouches _ n ?_)
    obtain ⟨i, place⟩ := (h.ports n).mpr (.inl (List.mem_cons_self ..))
    obtain ⟨r, hr, live, _⟩ := h.occupants i _ place
    refine ⟨{ r with acceptedPort := some q }, ?_, live⟩
    rw [State.record_updateRecord, if_pos rfl]
    exact congrArg (Option.map _) hr
  · exact seated

/-- A verdict on a hold, with its withdrawal from the list before and its consequences after (R82 to R88). -/
theorem State.Laws.answerWith {s : State} {k : Hold} (h : s.Laws [] []) (hk : k ∈ s.holds) (accept : Bool) :
    (s.answerWith k accept).Laws [] [] := by
  have free := s.not_held_removeHold k.station
  unfold State.answerWith State.applyVerdict State.holdLeft
  cases kind : k.kind with
  | port u q =>
    have removed := h.removePort hk kind
    dsimp only
    rw [if_neg (by simp)]
    refine State.Laws.reportRelease ?_
    split
    · exact removed.acceptPort q (by simp) free
    · exact removed.freePlaces (by simp) (by simp) free (h.not_owed_of_held ⟨k, hk, rfl⟩)
  | clear scope =>
    have removed := h.removeHold hk (by simp [kind]) (by simp [kind])
    dsimp only
    rw [if_neg (by simp)]
    refine State.Laws.reportRelease ?_
    split
    · exact removed.retouch (State.clearStation_retouches _ _)
    · exact removed
  | trigger =>
    have removed := h.removeHold hk (by simp [kind]) (by simp [kind])
    dsimp only
    rw [if_neg (by simp)]
    refine State.Laws.reportRelease ?_
    split
    · exact removed.retouch (State.addNotice_retouches _ _ _)
    · exact removed
  | endOfMessage =>
    have removed := h.removeHold hk (by simp [kind]) (by simp [kind])
    dsimp only
    rw [if_neg (by simp)]
    exact removed.reportRelease
  | privateFrame =>
    dsimp only
    rw [if_pos rfl]
    exact (h.removePrivate hk kind).reportRelease

/-- The notice of an expiry and the hold's leaving the list come to the same in either order. -/
theorem State.addNotice_removeHold (s : State) (n m : StationNo) (k : NoticeKind) :
    (s.removeHold n).addNotice m k = (s.addNotice m k).removeHold n := by
  have record : (s.removeHold n).record m = s.record m := rfl
  unfold State.addNotice State.changeNotices
  rw [record]
  split <;> rfl

/-- An expiry is HOLD_EXPIRED and then the default verdict (R89). -/
theorem State.expireHold_eq (s : State) (k : Hold) :
    s.expireHold k = (s.addNotice k.station .holdExpired).answerWith k k.kind.defaultAccept := by
  rw [State.expireHold, State.addNotice_removeHold]
  rfl

theorem State.Laws.expireHold {s : State} {k : Hold} (h : s.Laws [] []) (hk : k ∈ s.holds) : (s.expireHold k).Laws [] [] := by
  have noticed := s.addNotice_retouches k.station .holdExpired
  rw [State.expireHold_eq]
  exact (h.retouch noticed).answerWith (by rw [noticed.holds]; exact hk) _

/-- The hold list after a verdict. -/
theorem State.holds_answerWith (s : State) (k : Hold) (accept : Bool) :
    (s.answerWith k accept).holds = s.holds.filter (fun h => decide (h.station ≠ k.station)) := by
  unfold State.answerWith State.holdLeft
  rw [State.reportRelease_frame, State.applyVerdict_frame]
  split
  · rw [State.discardPrivateCopy_frame]; rfl
  · rfl

theorem State.holds_expireHold (s : State) (k : Hold) :
    (s.expireHold k).holds = s.holds.filter (fun h => decide (h.station ≠ k.station)) := by
  rw [State.expireHold_eq, State.holds_answerWith, (s.addNotice_retouches _ _).holds]

/-- Holds of the list that expire one after the other, each completed before the next (R89). -/
theorem State.Laws.expireAll (ks : List Hold) {s : State} (h : s.Laws [] []) (sub : ∀ k ∈ ks, k ∈ s.holds)
    (nodup : (ks.map (fun k => k.station)).Nodup) : (ks.foldl State.expireHold s).Laws [] [] := by
  induction ks generalizing s with
  | nil => exact h
  | cons k ks ih =>
    rw [List.map_cons, List.nodup_cons] at nodup
    refine ih (h.expireHold (sub k (List.mem_cons_self ..))) (fun k' hk' => ?_) nodup.2
    rw [State.holds_expireHold, List.mem_filter, decide_eq_true_eq]
    exact ⟨sub k' (List.mem_cons_of_mem _ hk'), fun e => nodup.1 (e ▸ List.mem_map_of_mem hk')⟩

theorem State.Laws.expireHolds {s : State} (h : s.Laws [] []) : s.expireHolds.Laws [] [] :=
  State.Laws.expireAll _ h (fun _ hk => List.mem_of_mem_filter hk) (h.oneHold.sublist (List.filter_sublist.map _))

theorem State.mem_holds_expireAll (ks : List Hold) (s : State) (k : Hold) :
    k ∈ (ks.foldl State.expireHold s).holds ↔ k ∈ s.holds ∧ ∀ k' ∈ ks, k.station ≠ k'.station := by
  induction ks generalizing s with
  | nil => simp
  | cons k' ks ih =>
    rw [List.foldl_cons, ih, State.holds_expireHold, List.mem_filter, decide_eq_true_eq, and_assoc, List.forall_mem_cons]

/-- After the expiry no hold that is left is due. -/
theorem State.not_due_of_mem_expireHolds (s : State) (k : Hold) (hk : k ∈ s.expireHolds.holds) :
    k ∈ s.holds ∧ timerDue k.remaining = false := by
  obtain ⟨mem, others⟩ := (s.mem_holds_expireAll _ k).mp hk
  refine ⟨mem, ?_⟩
  by_contra due
  exact others k (List.mem_filter.mpr ⟨mem, by simpa using due⟩) rfl

/-! ## The stage -/

/-- The stage dropped: its stations' retirements are to be reported (R107, R108). -/
theorem State.Laws.emptyStage {late portless : List StationNo} {s : State} {g : Stage} (h : s.Laws late portless) (hg : s.stage = some g) :
    State.Laws (g.owed ++ late) portless { s with stage := none } :=
  { h with
    stage := fun _ e => by cases e
    retiring := fun n r hn hr hl => by
      rw [List.mem_append, not_or] at hn
      rcases h.retiring n r hn.2 hr hl with placed | held | ⟨g', hg', hm⟩
      · exact .inl placed
      · exact .inr (.inl held)
      · obtain rfl := Option.some.inj (hg.symm.trans hg')
        exact absurd hm hn.1 }

/-- The stage timer runs out (R107). -/
theorem State.Laws.expireStage {s : State} (h : s.Laws [] []) : s.expireStage.Laws [] [] := by
  unfold State.expireStage
  split
  · exact h
  · next g hg =>
    split
    · have lost : s.Retouches (s.forStations g.owed (fun n t => t.addNotice n .dataLost)) :=
        State.foldl_retouches_all _ (fun t n => t.addNotice_retouches n .dataLost) g.owed s
      have dropped := (h.retouch lost).emptyStage (lost.stage.trans hg)
      rw [List.append_nil] at dropped
      exact dropped.reportReleases g.owed
    · exact h

/-- What a report leaves alone. -/
theorem State.reportReleases_frame (ns : List StationNo) (s : State) : (s.forStations ns State.reportRelease).holds = s.holds ∧
    (s.forStations ns State.reportRelease).stage = s.stage :=
  ⟨State.forStations_keeps State.holds _ (fun n t => by rw [State.reportRelease_frame]) ns s,
    State.forStations_keeps State.stage _ (fun n t => by rw [State.reportRelease_frame]) ns s⟩

theorem State.holds_expireStage (s : State) : s.expireStage.holds = s.holds := by
  unfold State.expireStage
  split
  · rfl
  · split
    · rw [(State.reportReleases_frame _ _).1]
      exact State.forStations_keeps State.holds _ (fun n t => (t.addNotice_retouches n _).holds) _ s
    · rfl

/-- After the expiry the stage that is left, if one is, is not due. -/
theorem State.stage_expireStage (s : State) (g : Stage) (h : s.expireStage.stage = some g) :
    s.stage = some g ∧ timerDue g.remaining = false := by
  unfold State.expireStage at h
  split at h
  · next e => rw [e] at h; cases h
  · next g' hg' =>
    split at h
    · rw [(State.reportReleases_frame _ _).2] at h; cases h
    · next due =>
      obtain rfl := Option.some.inj (hg'.symm.trans h)
      exact ⟨hg', by simpa using due⟩

/-- A timer that is not due stays within its range. -/
theorem tickTimer_range {t : Option Nat} (due : timerDue t = false) (range : ∀ n, t = some n → 1 ≤ n ∧ n ≤ 255) (n : Nat)
    (h : tickTimer t = some n) : 1 ≤ n ∧ n ≤ 255 := by
  cases t with
  | none => cases h
  | some m =>
    obtain rfl := Option.some.inj h
    have := range m rfl
    have : ¬ m ≤ 1 := by simpa [timerDue] using due
    omega

/-- Every timer falls by one, none of them being due (R80, R104). -/
theorem State.Laws.tick {s : State} (h : s.Laws [] []) (holds : ∀ k ∈ s.holds, timerDue k.remaining = false)
    (stage : ∀ g, s.stage = some g → timerDue g.remaining = false) : s.tick.Laws [] [] := by
  have mem {k : Hold} : k ∈ s.tick.holds ↔ ∃ k' ∈ s.holds, { k' with remaining := tickTimer k'.remaining } = k := by
    simp [State.tick]
  have stations : s.tick.holds.map (fun k => k.station) = s.holds.map (fun k => k.station) := by simp [State.tick]
  have held (n : StationNo) : Held s.tick n ↔ Held s n := by
    simp only [Held, mem]
    constructor
    · rintro ⟨_, ⟨k, hk, rfl⟩, e⟩; exact ⟨k, hk, e⟩
    · rintro ⟨k, hk, e⟩; exact ⟨_, ⟨k, hk, rfl⟩, e⟩
  refine ⟨h.flags, h.records, h.onePlace, h.occupants, h.accepted, by rw [stations]; exact h.oneHold, fun k hk => ?_, fun n => ?_,
    fun k hk t ht => ?_, ?_, fun g hg => ?_, fun n r hn hr hl => ?_, h.memory⟩
  · obtain ⟨k', hk', rfl⟩ := mem.mp hk
    exact h.holders k' hk'
  · refine (h.ports n).trans (or_congr_right ?_)
    simp only [mem]
    constructor
    · rintro ⟨k, hk, e⟩; exact ⟨_, ⟨k, hk, rfl⟩, e⟩
    · rintro ⟨_, ⟨k, hk, rfl⟩, e⟩; exact ⟨k, hk, e⟩
  · obtain ⟨k', hk', rfl⟩ := mem.mp hk
    exact tickTimer_range (holds k' hk') (h.timers k' hk') t ht
  · refine h.copy.trans ?_
    simp only [mem]
    constructor
    · rintro ⟨k, hk, e⟩; exact ⟨_, ⟨k, hk, rfl⟩, e⟩
    · rintro ⟨_, ⟨k, hk, rfl⟩, e⟩; exact ⟨k, hk, e⟩
  · cases hs : s.stage with
    | none => rw [State.tick, hs] at hg; cases hg
    | some g' =>
      rw [State.tick, hs] at hg
      obtain rfl := Option.some.inj hg
      obtain ⟨length, content, owing, ascending, timer, owed⟩ := h.stage g' hs
      refine ⟨length, content, owing, ascending, tickTimer_range (stage g' hs) timer, fun n hn => ?_⟩
      obtain ⟨seated, free, complete⟩ := owed n hn
      refine ⟨seated, ?_, complete⟩
      rw [State.pendingHold_eq_none] at free ⊢
      rw [held]; exact free
  · rcases h.retiring n r hn hr hl with placed | hold | ⟨g, hg, hm⟩
    · exact .inl placed
    · exact .inr (.inl ((held n).mpr hold))
    · exact .inr (.inr ⟨{ g with remaining := tickTimer g.remaining }, by rw [State.tick, hg], hm⟩)

theorem State.Laws.millisecond {s : State} (h : s.Laws [] []) : s.expireHolds.expireStage.tick.Laws [] [] :=
  h.expireHolds.expireStage.tick (fun k hk => (s.not_due_of_mem_expireHolds k (State.holds_expireStage _ ▸ hk)).2)
    fun g hg => (State.stage_expireStage _ g hg).2

end Sys2Proof.Machine

/-! ## Transfers -/

namespace Sys2Proof.Machine

-- One theorem after the other: each thread of its own would take a stack.
set_option Elab.async false

open Sys2Proof.Claims

/-- A store into buffer memory. -/
theorem State.writeMemory_retouches (s : State) (m : Memory) (h : Memory.wf s.memory = true → Memory.wf m = true) :
    s.Retouches { s with memory := m } :=
  ⟨⟨rfl, rfl, rfl, rfl, rfl⟩, fun _ => relKeeps_refl _, rfl, rfl, h⟩

/-- The inbound after a store of a DATA body is as R95 wants it. -/
theorem StationRecord.inboundLaw_after (r : StationRecord) {fill : Nat} {endMark : Bool} (region : r.inRegion ≠ none)
    (room : fill ≤ regionCapacity r.inRegion) (content : endMark = true ∨ 1 ≤ fill) :
    { r with inbound := inboundAfter fill (regionCapacity r.inRegion) endMark }.inboundLaw := by
  unfold StationRecord.inboundLaw inboundAfter
  dsimp only
  cases endMark with
  | true => exact ⟨region, room⟩
  | false =>
    simp only [Bool.false_eq_true, if_false]
    by_cases full : fill = regionCapacity r.inRegion
    · rw [if_pos full]; exact ⟨region, room⟩
    · rw [if_neg full]
      have := content.resolve_left (by simp)
      exact ⟨this, by omega⟩

/-- A store into the region of a live listener with room for it stays within buffer memory (R13, R98). -/
theorem StationRecord.Sound.store_fits {r : StationRecord} (h : r.Sound) (live : r.life ≠ .retired) (region : r.inRegion ≠ none)
    {fill len : Nat} (room : fill + len ≤ regionCapacity r.inRegion) : regionBase r.inRegion + fill + len ≤ 8192 := by
  cases hg : r.inRegion with
  | none => exact absurd hg region
  | some g =>
    have range := h.range live true g hg
    simp only [hg, regionCapacity, Region.capacity] at room
    simp only [regionBase, Region.base]
    omega

/-- A DATA body stored for a live listener that has room for it (R98). -/
theorem State.storeFrame_retouches {s : State} {n : StationNo} {r : StationRecord} {body : List Byte} {endMark : Bool}
    (hr : s.record n = some r) (sound : r.Sound) (live : r.life ≠ .retired) (listener : r.mayListen = true)
    (room : r.hasRoom body.length = true) (content : endMark = true ∨ body ≠ []) : s.Retouches (s.storeFrame n body endMark) := by
  simp only [StationRecord.hasRoom, Bool.and_eq_true, Bool.not_eq_true', decide_eq_true_eq] at room
  obtain ⟨incomplete, fits⟩ := room
  have region := sound.inRegion_iff.mpr ⟨listener, live⟩
  have stored : s.Retouches { s.updateRecord n (fun r' => { r' with
        inbound := inboundAfter (r.inbound.fill + body.length) (regionCapacity r.inRegion) endMark }) with
      memory := Memory.writeList s.memory (regionBase r.inRegion + r.inbound.fill) body } := by
    refine (s.updateRecord_retouches n _ fun r' hr' => ?_).trans (State.writeMemory_retouches _ _ fun wf =>
      Memory.wf_writeList _ _ _ (sound.store_fits live region fits) wf)
    obtain rfl := Option.some.inj (hr.symm.trans hr')
    refine r.keeps_inbound _ (by simp [incomplete]) (fun _ => r.inboundLaw_after region fits ?_) fun e => absurd e live
    exact content.imp_right fun ne => by
      have := List.length_pos_iff.mpr ne
      omega
  unfold State.storeFrame
  rw [hr]
  dsimp only
  split
  · exact stored.trans (State.addNotice_retouches _ n _)
  · exact stored

/-- A listener without room has its region closed as it stands (R99). -/
theorem State.closeUnfinished_retouches {s : State} {n : StationNo} {r : StationRecord} (hr : s.record n = some r) (sound : r.Sound)
    (live : r.life ≠ .retired) (listener : r.mayListen = true) : s.Retouches (s.closeUnfinished n) := by
  have region := sound.inRegion_iff.mpr ⟨listener, live⟩
  unfold State.closeUnfinished
  rw [hr]
  dsimp only
  split
  · exact .refl s
  · next incomplete =>
    refine (s.updateRecord_retouches n _ fun r' hr' => ?_).trans (State.addNotice_retouches _ n _)
    obtain rfl := Option.some.inj (hr.symm.trans hr')
    refine r.keeps_inbound _ (fun _ => rfl) (fun _ => ⟨region, ?_⟩) fun e => absurd e live
    have law := sound.inboundLaw
    unfold StationRecord.inboundLaw at law
    cases hi : r.inbound with
    | empty => exact Nat.zero_le _
    | filling f => rw [hi] at law; exact Nat.le_of_succ_le law.2
    | complete f c => exact absurd hi (incomplete f c)

/-- Once closed, the region is COMPLETE. -/
theorem State.closeUnfinished_complete {s : State} {n : StationNo} {r : StationRecord} (hr : s.record n = some r) :
    ∃ q, (s.closeUnfinished n).record n = some q ∧ q.inbound.isComplete = true := by
  unfold State.closeUnfinished
  rw [hr]
  dsimp only
  split
  · next f c e => exact ⟨r, hr, by rw [e]; rfl⟩
  · exact ⟨_, by rw [State.record_addNotice, if_pos rfl, State.record_updateRecord, if_pos rfl, hr]; rfl, rfl⟩

/-! ### A DATA frame -/

theorem State.mem_listeners (s : State) (n : StationNo) : n ∈ s.listeners ↔ ∃ l, s.lane l = some ⟨n, false⟩ := by
  have seated (p : Option Place) : seatedIn p = some n ↔ p = some ⟨n, false⟩ := by
    unfold seatedIn
    split <;> simp_all
  simp [State.listeners, mem_laneNumbers, seated]

/-- A station is seated in one lane at most (R59). -/
theorem State.Laws.listeners_nodup {late portless : List StationNo} {s : State} (h : s.Laws late portless) : s.listeners.Nodup := by
  refine List.Nodup.filterMap (fun i j n hi hj => ?_) (by decide)
  have seated {i : LaneNo} (hi : n ∈ seatedIn (s.lane i)) : s.place (some i) = some ⟨n, false⟩ := by
    show s.lane i = _
    revert hi
    unfold seatedIn
    split <;> simp_all
  exact Option.some.inj (h.onePlace _ _ _ _ (seated hi) (seated hj) rfl)

/-- A station seated in a lane is live and a listener. -/
theorem State.Laws.listener {late portless : List StationNo} {s : State} {n : StationNo} (h : s.Laws late portless)
    (seated : ∃ l, s.lane l = some ⟨n, false⟩) : ∃ r, s.record n = some r ∧ r.life ≠ .retired ∧ r.mayListen = true := by
  obtain ⟨l, hl⟩ := seated
  obtain ⟨r, hr, live, role, _⟩ := h.occupants (some l) _ hl
  exact ⟨r, hr, live, by simpa using role⟩

/-- A DATA frame half taken, with the stations `ns` still to be offered it: those that want an END hold, those owed and those to come are
seated in lanes, none is in two of the lists, and those owed have their regions COMPLETE. -/
structure DataPass.Good (s : State) (ns : List StationNo) (p : DataPass) : Prop where
  retouches : s.Retouches p.state
  seated : ∀ n, n ∈ p.endHolds ∨ n ∈ p.owed ∨ n ∈ ns → ∃ l, s.lane l = some ⟨n, false⟩
  fresh : ∀ n ∈ ns, n ∉ p.endHolds ∧ n ∉ p.owed
  endHolds : p.endHolds.Nodup
  apart : ∀ n ∈ p.endHolds, n ∉ p.owed
  complete : ∀ n ∈ p.owed, ∃ r, p.state.record n = some r ∧ r.inbound.isComplete = true

/-- A region COMPLETE stays so. -/
theorem State.Retouches.complete {s t : State} {n : StationNo} (h : s.Retouches t)
    (hn : ∃ r, s.record n = some r ∧ r.inbound.isComplete = true) : ∃ r, t.record n = some r ∧ r.inbound.isComplete = true := by
  obtain ⟨r, hr, hc⟩ := hn
  obtain ⟨q, hq, keeps⟩ := h.outcome hr
  exact ⟨q, hq, keeps.complete hc⟩

/-- The frame offered to a station is stored, with an END hold to come if it wants one. -/
theorem DataPass.Good.store {s : State} {n : StationNo} {ns : List StationNo} {p : DataPass} (h : p.Good s (n :: ns))
    (nodup : (n :: ns).Nodup) {t : State} (ht : p.state.Retouches t) (wants : Bool) :
    DataPass.Good s ns { p with state := t, endHolds := if wants then p.endHolds ++ [n] else p.endHolds } := by
  obtain ⟨notEnd, notOwed⟩ := h.fresh n (List.mem_cons_self ..)
  have later (m : StationNo) (hm : m ∈ ns) : m ≠ n := fun e => (List.nodup_cons.mp nodup).1 (e ▸ hm)
  have mem (m : StationNo) : m ∈ (if wants then p.endHolds ++ [n] else p.endHolds) → m ∈ p.endHolds ∨ m = n := by
    split
    · simp
    · exact .inl
  refine ⟨h.retouches.trans ht, fun m hm => h.seated m ?_, fun m hm => ⟨fun e => ?_, ?_⟩, ?_, fun m hm => ?_,
    fun m hm => ht.complete (h.complete m hm)⟩
  · rcases hm with hm | hm | hm
    · rcases mem m hm with hm | rfl
      · exact .inl hm
      · exact .inr (.inr (List.mem_cons_self ..))
    · exact .inr (.inl hm)
    · exact .inr (.inr (List.mem_cons_of_mem _ hm))
  · rcases mem m e with e | e
    · exact (h.fresh m (List.mem_cons_of_mem _ hm)).1 e
    · exact later m hm e
  · exact (h.fresh m (List.mem_cons_of_mem _ hm)).2
  · dsimp only
    split
    · refine List.nodup_append.mpr ⟨h.endHolds, List.nodup_singleton n, ?_⟩
      rintro a ha b hb rfl
      exact notEnd (List.mem_singleton.mp hb ▸ ha)
    · exact h.endHolds
  · rcases mem m hm with hm | rfl
    · exact h.apart m hm
    · exact notOwed

/-- The frame is owed to a station that had no room. -/
theorem DataPass.Good.owe {s : State} {n : StationNo} {ns : List StationNo} {p : DataPass} (h : p.Good s (n :: ns))
    (nodup : (n :: ns).Nodup) {t : State} (ht : p.state.Retouches t) (complete : ∃ r, t.record n = some r ∧ r.inbound.isComplete = true) :
    DataPass.Good s ns { p with state := t, owed := p.owed ++ [n] } := by
  obtain ⟨notEnd, notOwed⟩ := h.fresh n (List.mem_cons_self ..)
  have later (m : StationNo) (hm : m ∈ ns) : m ≠ n := fun e => (List.nodup_cons.mp nodup).1 (e ▸ hm)
  have mem (m : StationNo) : m ∈ p.owed ++ [n] ↔ m ∈ p.owed ∨ m = n := by simp
  refine ⟨h.retouches.trans ht, fun m hm => h.seated m ?_, fun m hm => ⟨?_, fun e => ?_⟩, h.endHolds, fun m hm e => ?_, fun m hm => ?_⟩
  · rcases hm with hm | hm | hm
    · exact .inl hm
    · rcases (mem m).mp hm with hm | rfl
      · exact .inr (.inl hm)
      · exact .inr (.inr (List.mem_cons_self ..))
    · exact .inr (.inr (List.mem_cons_of_mem _ hm))
  · exact (h.fresh m (List.mem_cons_of_mem _ hm)).1
  · rcases (mem m).mp e with e | e
    · exact (h.fresh m (List.mem_cons_of_mem _ hm)).2 e
    · exact later m hm e
  · rcases (mem m).mp e with e | rfl
    · exact h.apart m hm e
    · exact notEnd hm
  · rcases (mem m).mp hm with hm | rfl
    · exact ht.complete (h.complete m hm)
    · exact complete

/-- The frame offered to one listener (R97 to R99). -/
theorem DataPass.Good.offer {s : State} {n : StationNo} {ns : List StationNo} {p : DataPass} {body : List Byte} {endMark : Bool}
    (laws : s.Laws [] []) (h : p.Good s (n :: ns)) (nodup : (n :: ns).Nodup) (content : endMark = true ∨ body ≠ []) :
    DataPass.Good s ns (p.offer body endMark n) := by
  obtain ⟨r₀, hr₀, live₀, listener₀⟩ := laws.listener (h.seated n (.inr (.inr (List.mem_cons_self ..))))
  obtain ⟨r, hr, keeps⟩ := h.retouches.outcome hr₀
  have live : r.life ≠ .retired := keeps.life ▸ live₀
  have listener : r.mayListen = true := keeps.mayListen.trans listener₀
  have sound := keeps.sound (laws.records n r₀ hr₀).1
  unfold DataPass.offer
  rw [hr]
  dsimp only
  rw [if_neg live]
  split
  · next room => exact h.store nodup (State.storeFrame_retouches hr sound live listener room content) _
  · exact h.owe nodup (State.closeUnfinished_retouches hr sound live listener) (State.closeUnfinished_complete hr)

theorem DataPass.Good.offerAll {s : State} {body : List Byte} {endMark : Bool} (laws : s.Laws [] [])
    (content : endMark = true ∨ body ≠ []) (ns : List StationNo) {p : DataPass} (h : p.Good s ns) (nodup : ns.Nodup) :
    DataPass.Good s [] (ns.foldl (DataPass.offer body endMark) p) := by
  induction ns generalizing p with
  | nil => exact h
  | cons n ns ih => exact ih (h.offer laws nodup content) (List.nodup_cons.mp nodup).2

/-- Who has a hold once holds have been raised for a list of stations. -/
theorem State.held_raiseAll (k : HoldKind) (ns : List StationNo) (s : State) (m : StationNo) :
    Held (ns.foldl (fun t n => t.raiseHold n k) s) m ↔ Held s m ∨ m ∈ ns := by
  induction ns generalizing s with
  | nil => simp
  | cons n ns ih =>
    rw [List.foldl_cons, ih, List.mem_cons, ← or_assoc]
    refine or_congr_left ?_
    simp only [Held, State.raiseHold_holds, List.mem_append, List.mem_singleton, or_and_right, exists_or, exists_eq_left, eq_comm]

/-- What the raising of holds leaves alone. -/
theorem State.raiseAll_frame (k : HoldKind) (ns : List StationNo) (s : State) :
    (ns.foldl (fun t n => t.raiseHold n k) s).stations = s.stations ∧ (ns.foldl (fun t n => t.raiseHold n k) s).stage = s.stage ∧
      (ns.foldl (fun t n => t.raiseHold n k) s).lanes = s.lanes := by
  induction ns generalizing s with
  | nil => exact ⟨rfl, rfl, rfl⟩
  | cons n ns ih => exact ih _

/-- Holds of one kind raised for stations that have none, while the stage is empty. -/
theorem State.Laws.raiseAll {late portless : List StationNo} {k : HoldKind} (port : ∀ u q, k ≠ .port u q) (other : k ≠ .privateFrame)
    (ns : List StationNo) {s : State} (h : s.Laws late portless) (stage : s.stage = none) (nodup : ns.Nodup)
    (live : ∀ n ∈ ns, s.LiveAt n) (free : ∀ n ∈ ns, ¬ Held s n) : (ns.foldl (fun t n => t.raiseHold n k) s).Laws late portless := by
  induction ns generalizing s with
  | nil => exact h
  | cons n ns ih =>
    rw [List.nodup_cons] at nodup
    have unowed : ¬ Owed s n := fun ⟨g, hg, _⟩ => by rw [stage] at hg; cases hg
    refine ih (h.raiseHold port other (live n (List.mem_cons_self ..)) (free n (List.mem_cons_self ..)) unowed) stage nodup.2
      (fun m hm => live m (List.mem_cons_of_mem _ hm)) fun m hm held => ?_
    rcases (State.held_raiseAll k [n] s m).mp held with held | e
    · exact free m (List.mem_cons_of_mem _ hm) held
    · exact nodup.1 (List.mem_singleton.mp e ▸ hm)

/-- The stage formed for listeners whose regions are COMPLETE and that have no hold (R102). -/
theorem State.Laws.formStage {s : State} {body : List Byte} {endMark : Bool} {owed : List StationNo} (h : s.Laws [] [])
    (stage : s.stage = none) (length : body.length ≤ 32) (content : endMark = true ∨ body ≠ [])
    (waiting : ∀ n ∈ owed, (∃ l, s.lane l = some ⟨n, false⟩) ∧ ¬ Held s n ∧ ∃ r, s.record n = some r ∧ r.inbound.isComplete = true) :
    (s.formStage body endMark owed).Laws [] [] := by
  unfold State.formStage
  split
  · exact h
  · next owing =>
    have mem (n : StationNo) : n ∈ stationNumbers.filter (fun n => decide (n ∈ owed)) ↔ n ∈ owed := by
      simp [stationNumbers]
    refine { h with stage := fun g hg => ?_, retiring := fun n r hn hr hl => ?_ }
    · obtain rfl := Option.some.inj hg
      refine ⟨length, content, fun e => owing (List.eq_nil_iff_forall_not_mem.mpr fun n hn => ?_),
        List.Pairwise.filter (fun n => decide (n ∈ owed)) (List.pairwise_lt_finRange 32), s.startTimer_range, fun n hn => ?_⟩
      · exact List.eq_nil_iff_forall_not_mem.mp e n ((mem n).mpr hn)
      · obtain ⟨seated, free, complete⟩ := waiting n ((mem n).mp hn)
        exact ⟨seated, (s.pendingHold_eq_none n).mpr free, complete⟩
    · rcases h.retiring n r hn hr hl with placed | held | ⟨g, hg, _⟩
      · exact .inl placed
      · exact .inr (.inl held)
      · rw [stage] at hg; cases hg

/-- A DATA frame, taken while no hold is pending and the stage is empty (R97 to R104). -/
theorem State.Laws.takeData {s : State} {endMark : Bool} {body : List Byte} (h : s.Laws [] []) (holds : s.holds = [])
    (stage : s.stage = none) (length : body.length ≤ 32) (content : endMark = true ∨ body ≠ []) :
    (s.takeData endMark body).Laws [] [] := by
  have start : DataPass.Good s s.listeners ⟨s, [], []⟩ :=
    ⟨.refl s, fun n hn => (s.mem_listeners n).mp (by simpa using hn), fun _ _ => by simp, List.nodup_nil, by simp, by simp⟩
  have pass := start.offerAll h content _ h.listeners_nodup
  unfold State.takeData
  dsimp only
  generalize s.listeners.foldl (DataPass.offer body endMark) ⟨s, [], []⟩ = p at pass
  have offered := h.retouch pass.retouches
  have none (n : StationNo) : ¬ Held p.state n := by
    rintro ⟨k, hk, _⟩
    rw [pass.retouches.holds, holds] at hk
    cases hk
  have empty : p.state.stage = .none := pass.retouches.stage.trans stage
  have seated (n : StationNo) (hn : n ∈ p.endHolds ∨ n ∈ p.owed) : ∃ l, s.lane l = some ⟨n, false⟩ :=
    pass.seated n (hn.imp_right .inl)
  have raised := offered.raiseAll (k := .endOfMessage) (by simp) (by simp) p.endHolds empty pass.endHolds (fun n hn => by
    obtain ⟨r, hr, live, _⟩ := h.listener (seated n (.inl hn))
    exact pass.retouches.liveAt n ⟨r, hr, live⟩) fun n _ => none n
  obtain ⟨stations, stage', lanes⟩ := State.raiseAll_frame .endOfMessage p.endHolds p.state
  refine raised.formStage (stage'.trans empty) length content fun n hn => ⟨?_, ?_, ?_⟩
  · obtain ⟨l, hl⟩ := seated n (.inr hn)
    exact ⟨l, by rw [State.lane_congr lanes, State.lane_congr pass.retouches.lanes]; exact hl⟩
  · rw [State.held_raiseAll]
    rintro (held | hn')
    · exact none n held
    · exact pass.apart n hn' hn
  · rw [State.record_congr stations]
    exact pass.complete n hn

end Sys2Proof.Machine

/-! ### FETCH and POLL -/

namespace Sys2Proof.Machine

-- One theorem after the other: each thread of its own would take a stack.
set_option Elab.async false

open Sys2Proof.Claims

/-- The outbound of a station after a change of its own record. -/
theorem State.updateOutbound_retouches {s : State} {n : StationNo} {r : StationRecord} (o : Outbound) (hr : s.record n = some r)
    (law : r.Sound → { r with outbound := o }.outboundLaw) (held : r.outbound ≠ .empty ∨ r.life = .online) :
    s.Retouches (s.updateRecord n (fun r => { r with outbound := o })) :=
  s.updateRecord_retouches n _ fun r' hr' => by
    obtain rfl := Option.some.inj (hr.symm.trans hr')
    exact r.keeps_outbound o law fun hl he => held.elim (absurd he) fun ho => absurd ho hl

theorem State.outboundDone_retouches (s : State) (n : StationNo) : s.Retouches (s.outboundDone n) :=
  (s.updateRecord_retouches n _ fun r _ => r.keeps_outboundEmpty).trans (State.addNotice_retouches _ n _)

/-- A reply made up stands outside these laws. -/
theorem State.replyWaiting_retouches (s : State) (f : Option ReplyFrame) : s.Retouches { s with replyWaiting := f } :=
  .of_frame ⟨rfl, rfl, rfl, rfl, rfl⟩ rfl rfl rfl rfl

/-- The next chunk of a message whose posted length is within the region (R113, R119). -/
theorem State.sendChunk_retouches {s : State} {n : StationNo} {r : StationRecord} (hr : s.record n = some r) (ho : r.outbound ≠ .empty)
    (len : Nat) (e : Bool) (c : Nat) (room : r.Sound → len ≤ regionCapacity r.outRegion) : s.Retouches (s.sendChunk n r len e c) := by
  unfold State.sendChunk
  dsimp only
  split
  · exact (s.outboundDone_retouches n).trans (State.replyWaiting_retouches _ _)
  · refine (State.updateOutbound_retouches _ hr (fun sound => ?_) (.inl ho)).trans (State.replyWaiting_retouches _ _)
    refine ⟨room sound, ?_, ?_⟩ <;> omega

theorem State.takeFetch_retouches (s : State) : s.Retouches s.takeFetch := by
  unfold State.takeFetch
  split
  · exact .refl s
  · next n _ =>
    split
    · exact .refl s
    · next r hr =>
      have law (sound : r.Sound) := sound.outboundLaw
      unfold StationRecord.outboundLaw at law
      split
      · exact s.replyWaiting_retouches _
      · next len e ho =>
        simp only [ho] at law
        exact State.sendChunk_retouches hr (by simp [ho]) len e 0 fun sound => (law sound).2.1
      · next len e c ho =>
        simp only [ho] at law
        exact State.sendChunk_retouches hr (by simp [ho]) len e c fun sound => (law sound).1
      · exact (s.outboundDone_retouches n).trans (State.replyWaiting_retouches _ _)

/-- The station an address resolves to is ONLINE and passes the test (R46). -/
theorem State.resolve_online {s : State} {test : StationRecord → Bool} {n : StationNo} (h : s.resolve test = some n) :
    ∃ r, Online s n r ∧ test r = true :=
  (s.onlineWith_iff n test).mp (List.find?_some (p := fun n => s.onlineWith n test) h)

theorem State.takePoll_retouches (s : State) (a : Address) : s.Retouches (s.takePoll a) := by
  unfold State.takePoll
  split
  · exact .refl s
  · next n hn =>
    obtain ⟨r, ⟨hr, online⟩, _⟩ := State.resolve_online hn
    have wrote := s.writeMatch_retouches n a (.of_online ⟨hr, online⟩)
    rw [hr]
    dsimp only
    split
    · have asked : (s.writeMatch n a).Retouches ((s.writeMatch n a).updateRecord n (fun r => { r with request := .answered })) := by
        refine State.updateRecord_retouches _ n _ fun q hq => q.keeps_request _ fun hl => ?_
        rw [State.writeMatch, State.record_updateRecord, if_pos rfl, hr] at hq
        obtain rfl := Option.some.inj hq
        exact absurd online hl
      exact wrote.trans <| asked.trans <| (State.addNotice_retouches _ n _).trans (State.replyWaiting_retouches _ _)
    · exact wrote.trans (State.replyWaiting_retouches _ _)
    · exact wrote.trans (State.replyWaiting_retouches _ _)

/-! ### CLEAR, TRIGGER and PRIVATE -/

/-- A pass that either raises a hold of one kind for a station or touches its record. -/
theorem State.Laws.raiseOrTouch {k : HoldKind} (port : ∀ u q, k ≠ .port u q) (other : k ≠ .privateFrame)
    {f : StationNo → State → State} (hf : ∀ n (t : State), f n t = t.raiseHold n k ∨ t.Retouches (f n t)) (ns : List StationNo) {s : State}
    (h : s.Laws [] []) (stage : s.stage = none) (nodup : ns.Nodup) (live : ∀ n ∈ ns, s.LiveAt n) (free : ∀ n ∈ ns, ¬ Held s n) :
    (s.forStations ns f).Laws [] [] := by
  induction ns generalizing s with
  | nil => exact h
  | cons n ns ih =>
    rw [List.nodup_cons] at nodup
    rw [State.forStations_cons]
    rcases hf n s with e | touched
    · rw [e]
      have raised := h.raiseAll port other [n] stage (List.nodup_singleton n) (by simpa using live n (List.mem_cons_self ..))
        (by simpa using free n (List.mem_cons_self ..))
      refine ih raised stage nodup.2 (fun m hm => live m (List.mem_cons_of_mem _ hm)) fun m hm held => ?_
      rcases (State.held_raiseAll k [n] s m).mp held with held | e
      · exact free m (List.mem_cons_of_mem _ hm) held
      · exact nodup.1 (List.mem_singleton.mp e ▸ hm)
    · refine ih (h.retouch touched) (touched.stage.trans stage) nodup.2 (fun m hm => touched.liveAt m (live m (List.mem_cons_of_mem _ hm)))
        fun m hm held => free m (List.mem_cons_of_mem _ hm) ?_
      simpa only [Held, touched.holds] using held

theorem State.not_held_of_empty {s : State} (holds : s.holds = []) (n : StationNo) : ¬ Held s n := by
  rintro ⟨k, hk, _⟩
  rw [holds] at hk
  cases hk

theorem State.mem_onlineListeners_live {s : State} {n : StationNo} (h : n ∈ s.onlineListeners) : s.LiveAt n := by
  obtain ⟨r, online⟩ := (s.isOnline_iff n).mp (List.mem_filter.mp h).2
  exact .of_online online

theorem State.clearTargets_live (s : State) (scope : ClearScope) (n : StationNo) (h : n ∈ s.clearTargets scope) : s.LiveAt n := by
  cases scope with
  | all =>
    obtain ⟨r, online⟩ := (s.isOnline_iff n).mp (List.mem_filter.mp h).2
    exact .of_online online
  | listeners => exact State.mem_onlineListeners_live h

theorem State.Laws.onlineListeners_nodup {s : State} (h : s.Laws [] []) : s.onlineListeners.Nodup := h.listeners_nodup.filter _

theorem State.Laws.takeClear {s : State} (h : s.Laws [] []) (holds : s.holds = []) (stage : s.stage = none) (scope : ClearScope) :
    (s.takeClear scope).Laws [] [] := by
  refine h.raiseOrTouch (k := .clear scope) (by simp) (by simp) (fun n t => ?_) _ stage ?_ (s.clearTargets_live scope)
    fun n _ => State.not_held_of_empty holds n
  · unfold State.clearTarget
    split
    · exact .inl rfl
    · exact .inr (t.clearStation_retouches n)
  · cases scope with
    | all => exact (List.nodup_finRange 32).filter _
    | listeners => exact h.onlineListeners_nodup

theorem State.Laws.takeTrigger {s : State} (h : s.Laws [] []) (holds : s.holds = []) (stage : s.stage = none) :
    s.takeTrigger.Laws [] [] := by
  refine h.raiseOrTouch (k := .trigger) (by simp) (by simp) (fun n t => ?_) _ stage h.onlineListeners_nodup
    (fun n => State.mem_onlineListeners_live) fun n _ => State.not_held_of_empty holds n
  unfold State.triggerTarget
  split
  · exact .inl rfl
  · exact .inr (t.addNotice_retouches n _)

/-- PRIVATE holds raised with the copy kept. -/
theorem State.Laws.raisePrivates {c : PrivateCopy} (ns : List StationNo) {s : State} (h : s.Laws [] []) (copy : s.privateCopy = some c)
    (stage : s.stage = none) (nodup : ns.Nodup) (live : ∀ n ∈ ns, s.LiveAt n) (free : ∀ n ∈ ns, ¬ Held s n) :
    (ns.foldl (fun t n => t.raiseHold n .privateFrame) s).Laws [] [] := by
  induction ns generalizing s with
  | nil => exact h
  | cons n ns ih =>
    rw [List.nodup_cons] at nodup
    have raised := h.raisePrivate c (live n (List.mem_cons_self ..)) (free n (List.mem_cons_self ..)) fun ⟨g, hg, _⟩ => by
      rw [stage] at hg; cases hg
    rw [← copy] at raised
    refine ih raised copy stage nodup.2 (fun m hm => live m (List.mem_cons_of_mem _ hm)) fun m hm held => ?_
    rcases (State.held_raiseAll .privateFrame [n] s m).mp held with held | e
    · exact free m (List.mem_cons_of_mem _ hm) held
    · exact nodup.1 (List.mem_singleton.mp e ▸ hm)

theorem State.Laws.takePrivate {s : State} (h : s.Laws [] []) (holds : s.holds = []) (stage : s.stage = none) (code : BitVec 6)
    (body : List Byte) : (s.takePrivate code body).Laws [] [] := by
  unfold State.takePrivate
  have nodup := h.onlineListeners_nodup.filter fun n => s.onlineWith n (fun r => r.options.passPrivate)
  have live (n : StationNo) (hn : n ∈ s.onlineListeners.filter fun n => s.onlineWith n (fun r => r.options.passPrivate)) : s.LiveAt n :=
    State.mem_onlineListeners_live (List.mem_of_mem_filter hn)
  split
  · exact h
  · next n ns e =>
    rw [e, List.nodup_cons] at nodup
    rw [e] at live
    have raised := h.raisePrivate ⟨code, body⟩ (live n (List.mem_cons_self ..)) (State.not_held_of_empty holds n) fun ⟨g, hg, _⟩ => by
      rw [stage] at hg; cases hg
    refine raised.raisePrivates ns rfl stage nodup.2 (fun m hm => live m (List.mem_cons_of_mem _ hm)) fun m hm held => ?_
    rcases (State.held_raiseAll .privateFrame [n] s m).mp held with held | e
    · exact State.not_held_of_empty holds m held
    · exact nodup.1 (List.mem_singleton.mp e ▸ hm)

/-! ### Mode frames -/

/-- What a pass does to a record, when each of its changes reaches the record of its own station alone. -/
theorem State.record_forStations {f : StationNo → State → State} {g : StationRecord → StationRecord}
    (hf : ∀ n m (t : State), (f n t).record m = if m = n then (t.record n).map g else t.record m) (ns : List StationNo)
    (nodup : ns.Nodup) (s : State) (m : StationNo) :
    (s.forStations ns f).record m = if m ∈ ns then (s.record m).map g else s.record m := by
  induction ns generalizing s with
  | nil => simp
  | cons n ns ih =>
    rw [List.nodup_cons] at nodup
    rw [State.forStations_cons, ih nodup.2, hf]
    by_cases e : m = n
    · subst e
      simp [nodup.1]
    · simp [e]

theorem State.record_changeMode (s : State) (n m : StationNo) (x : ControlMode) : (s.changeMode n x).record m =
    if m = n then (s.record n).map (fun r => { r with mode := x, notices := r.notices.add .modeChanged }) else s.record m := by
  rw [State.changeMode, State.record_addNotice, State.record_updateRecord, State.record_updateRecord, if_pos rfl]
  split
  · rw [Option.map_map]; rfl
  · rfl

/-- A pass over all stations that changes modes and notices alone, together with the two flags, keeps the laws if the new modes follow the
new flags (R138). -/
theorem State.Laws.changeModes {late portless : List StationNo} {s t : State} {g : StationRecord → StationRecord}
    (h : s.Laws late portless) (same : s.SameBlocks t) (memory : t.memory = s.memory)
    (flags : t.lockout = true → t.remoteEnable = true) (records : ∀ m, t.record m = (s.record m).map g)
    (hg : ∀ r, r.modeFits s.remoteEnable s.lockout →
      g r = r ∧ r.modeFits t.remoteEnable t.lockout ∨
      ∃ m ns, g r = { r with mode := m, notices := ns } ∧ r.life = .online ∧ { r with mode := m }.modeFits t.remoteEnable t.lockout) :
    t.Laws late portless := by
  have change (m : StationNo) (q : StationRecord) (hq : t.record m = some q) : ∃ r, s.record m = some r ∧ q.life = r.life ∧
      q.policy = r.policy ∧ q.mayTalk = r.mayTalk ∧ q.mayListen = r.mayListen ∧ q.inbound = r.inbound ∧
      q.acceptedPort = r.acceptedPort ∧ (r.Sound → q.Sound) ∧ q.modeFits t.remoteEnable t.lockout := by
    rw [records] at hq
    obtain ⟨r, hr, rfl⟩ := Option.map_eq_some_iff.mp hq
    rcases hg r (h.records m r hr).2 with ⟨e, fits⟩ | ⟨x, ns, e, online, fits⟩
    · rw [e]; exact ⟨r, hr, rfl, rfl, rfl, rfl, rfl, rfl, id, fits⟩
    · rw [e]
      refine ⟨r, hr, rfl, rfl, rfl, rfl, rfl, rfl, fun sound => ?_, fits⟩
      obtain ⟨⟨unit, roles, inRegion, outRegion, inbound, outbound, accepted, quiet, _⟩, range⟩ := sound
      exact ⟨⟨unit, roles, inRegion, outRegion, inbound, outbound, accepted, quiet, fun e => by rw [online] at e; cases e⟩, range⟩
  refine h.of_records same flags (by rw [memory]; exact h.memory) (fun m q hq => ?_) (fun m r hr _ => ?_) fun m r q hr hq _ => ?_
  · obtain ⟨r, hr, life, _, _, _, _, accepted, sound, fits⟩ := change m q hq
    refine ⟨sound (h.records m r hr).1, fits, fun ha => ⟨r, hr, accepted ▸ ha⟩, fun hl => ?_⟩
    by_cases hm : m ∈ late
    · exact .inl hm
    · exact .inr (h.retiring m r hm hr (life ▸ hl))
  · have hq : t.record m = some (g r) := by rw [records, hr]; rfl
    obtain ⟨r', hr', life, policy, talk, listen, _⟩ := change m _ hq
    obtain rfl := Option.some.inj (hr.symm.trans hr')
    exact ⟨g r, hq, by rw [life]; exact id, policy, talk, listen⟩
  · obtain ⟨r', hr', _, _, _, _, inbound, _⟩ := change m q hq
    obtain rfl := Option.some.inj (hr.symm.trans hr')
    rw [inbound]; exact id

/-- What a pass of mode changes leaves alone. -/
theorem State.forStations_sameBlocks {f : StationNo → State → State} (hf : ∀ n (t : State), t.SameBlocks (f n t)) (ns : List StationNo)
    (s : State) : s.SameBlocks (s.forStations ns f) :=
  State.forStations_invariant (fun t => s.SameBlocks t) f (fun n t h => h.trans (hf n t)) ns s ⟨rfl, rfl, rfl, rfl, rfl⟩

/-- The flags and memory, which a pass over the records leaves alone. -/
def State.flagsAndMemory (s : State) : Bool × Bool × Memory := (s.remoteEnable, s.lockout, s.memory)

theorem State.changeMode_sameBlocks (s : State) (n : StationNo) (m : ControlMode) : s.SameBlocks (s.changeMode n m) := by
  rw [State.changeMode, State.addNotice_frame]
  exact ⟨rfl, rfl, rfl, rfl, rfl⟩

theorem State.changeMode_flagsAndMemory (s : State) (n : StationNo) (m : ControlMode) :
    (s.changeMode n m).flagsAndMemory = s.flagsAndMemory := by
  rw [State.changeMode, State.addNotice_frame]
  rfl

/-- REMOTE OFF on one record (R139). -/
def StationRecord.remoteOff (r : StationRecord) : StationRecord :=
  if r.life = .online ∧ r.mode ≠ .unlockedLocal then { r with mode := .unlockedLocal, notices := r.notices.add .modeChanged } else r

theorem State.record_remoteOff (n m : StationNo) (s : State) :
    (State.remoteOff n s).record m = if m = n then (s.record n).map StationRecord.remoteOff else s.record m := by
  unfold State.remoteOff State.onlineWith
  cases hr : s.record n with
  | none => simp only [Bool.false_eq_true, if_false, Option.map_none]; split <;> simp_all
  | some r =>
    simp only [Bool.and_eq_true, decide_eq_true_eq]
    split
    · next on => rw [State.record_changeMode, hr]; simp only [Option.map_some, StationRecord.remoteOff, if_pos on]
    · next off => simp only [Option.map_some, StationRecord.remoteOff, if_neg off]; split <;> simp_all

/-- LOCKOUT on one record (R140). -/
def StationRecord.lock (r : StationRecord) : StationRecord :=
  if r.life = .online then
    match r.mode with
    | .unlockedLocal => { r with mode := .lockedLocal, notices := r.notices.add .modeChanged }
    | .unlockedRemote => { r with mode := .lockedRemote, notices := r.notices.add .modeChanged }
    | _ => r
  else r

theorem State.record_lockStation (n m : StationNo) (s : State) :
    (State.lockStation n s).record m = if m = n then (s.record n).map StationRecord.lock else s.record m := by
  have same (r : StationRecord) (hr : s.record n = some r) (e : r.lock = r) :
      s.record m = if m = n then (s.record n).map StationRecord.lock else s.record m := by
    split
    · next hm => rw [hm, hr, Option.map_some, e]
    · rfl
  unfold State.lockStation
  split
  · next hr =>
    split
    · next hm => rw [hm, hr]; rfl
    · rfl
  · next r hr =>
    split
    · next off => exact same r hr (by rw [StationRecord.lock, if_neg off])
    · next on =>
      rw [ne_eq, Classical.not_not] at on
      split
      · next e => rw [State.record_changeMode, hr]; simp only [Option.map_some, StationRecord.lock, on, e, if_true]
      · next e => rw [State.record_changeMode, hr]; simp only [Option.map_some, StationRecord.lock, on, e, if_true]
      · next e => exact same r hr (by simp only [StationRecord.lock, on, e, if_true])
      · next e => exact same r hr (by simp only [StationRecord.lock, on, e, if_true])

theorem State.remoteOff_frame (n : StationNo) (s : State) :
    s.SameBlocks (State.remoteOff n s) ∧ (State.remoteOff n s).flagsAndMemory = s.flagsAndMemory := by
  unfold State.remoteOff
  split
  · exact ⟨s.changeMode_sameBlocks n _, s.changeMode_flagsAndMemory n _⟩
  · exact ⟨⟨rfl, rfl, rfl, rfl, rfl⟩, rfl⟩

theorem State.lockStation_frame (n : StationNo) (s : State) :
    s.SameBlocks (State.lockStation n s) ∧ (State.lockStation n s).flagsAndMemory = s.flagsAndMemory := by
  unfold State.lockStation
  have same : s.SameBlocks s ∧ s.flagsAndMemory = s.flagsAndMemory := ⟨⟨rfl, rfl, rfl, rfl, rfl⟩, rfl⟩
  split
  · exact same
  · split
    · exact same
    · split
      · exact ⟨s.changeMode_sameBlocks n _, s.changeMode_flagsAndMemory n _⟩
      · exact ⟨s.changeMode_sameBlocks n _, s.changeMode_flagsAndMemory n _⟩
      · exact same
      · exact same

/-- The record of every station after a pass over all of them. -/
theorem State.record_forAll {f : StationNo → State → State} {g : StationRecord → StationRecord}
    (hf : ∀ n m (t : State), (f n t).record m = if m = n then (t.record n).map g else t.record m) (s : State) (m : StationNo) :
    (s.forStations stationNumbers f).record m = (s.record m).map g :=
  (State.record_forStations hf stationNumbers (List.nodup_finRange 32) s m).trans (if_pos (List.mem_finRange m))

theorem State.Laws.takeRemote {s : State} (h : s.Laws [] []) (on : Bool) : (s.takeRemote on).Laws [] [] := by
  unfold State.takeRemote
  split
  · refine h.changeModes (g := id) ⟨rfl, rfl, rfl, rfl, rfl⟩ rfl (fun _ => rfl) (fun m => (Option.map_id_fun ▸ rfl)) fun r fits => .inl ⟨rfl, ?_⟩
    intro online
    obtain ⟨off, unlocked, locked⟩ := fits online
    refine ⟨fun e => (Bool.noConfusion e), fun _ hl => ?_, locked⟩
    cases remote : s.remoteEnable with
    | false => exact .inl (off remote)
    | true => exact unlocked remote hl
  · have blocks := State.forStations_sameBlocks (fun n t => (State.remoteOff_frame n t).1) stationNumbers
      { s with remoteEnable := false, lockout := false }
    have rest := State.forStations_keeps State.flagsAndMemory _ (fun n t => (State.remoteOff_frame n t).2) stationNumbers
      { s with remoteEnable := false, lockout := false }
    have record := State.record_forAll State.record_remoteOff { s with remoteEnable := false, lockout := false }
    generalize State.forStations { s with remoteEnable := false, lockout := false } stationNumbers State.remoteOff = t at blocks rest record
    simp only [State.flagsAndMemory, Prod.mk.injEq] at rest
    obtain ⟨remote, lock, memory⟩ := rest
    refine h.changeModes (g := StationRecord.remoteOff) ⟨blocks.talkSeat, blocks.lanes, blocks.holds, blocks.privateCopy, blocks.stage⟩ memory
      (by simp [lock]) record fun r _ => ?_
    rw [remote, lock]
    have fitsLocal (q : StationRecord) (e : q.life = .online → q.mode = .unlockedLocal) : q.modeFits false false :=
      fun online => ⟨fun _ => e online, by simp, by simp⟩
    unfold StationRecord.remoteOff
    split
    · next c => exact .inr ⟨.unlockedLocal, r.notices.add .modeChanged, rfl, c.1, fitsLocal _ fun _ => rfl⟩
    · next c => exact .inl ⟨rfl, fitsLocal r fun online => Classical.not_not.mp fun hm => c ⟨online, hm⟩⟩

theorem State.Laws.takeLockout {s : State} (h : s.Laws [] []) : s.takeLockout.Laws [] [] := by
  unfold State.takeLockout
  split
  · next enabled =>
    have blocks := State.forStations_sameBlocks (fun n t => (State.lockStation_frame n t).1) stationNumbers { s with lockout := true }
    have rest := State.forStations_keeps State.flagsAndMemory _ (fun n t => (State.lockStation_frame n t).2) stationNumbers
      { s with lockout := true }
    have record := State.record_forAll State.record_lockStation { s with lockout := true }
    generalize State.forStations { s with lockout := true } stationNumbers State.lockStation = t at blocks rest record
    simp only [State.flagsAndMemory, Prod.mk.injEq, enabled] at rest
    obtain ⟨remote, lock, memory⟩ := rest
    refine h.changeModes (g := StationRecord.lock) ⟨blocks.talkSeat, blocks.lanes, blocks.holds, blocks.privateCopy, blocks.stage⟩ memory
      (fun _ => remote) record fun r _ => ?_
    rw [remote, lock]
    have fitsLocked (q : StationRecord) (e : q.life = .online → q.mode = .lockedLocal ∨ q.mode = .lockedRemote) : q.modeFits true true :=
      fun online => ⟨by simp, by simp, fun _ => e online⟩
    unfold StationRecord.lock
    split
    · next online =>
      split
      · exact .inr ⟨.lockedLocal, r.notices.add .modeChanged, rfl, online, fitsLocked _ fun _ => .inl rfl⟩
      · exact .inr ⟨.lockedRemote, r.notices.add .modeChanged, rfl, online, fitsLocked _ fun _ => .inr rfl⟩
      · next h1 h2 =>
        refine .inl ⟨rfl, fitsLocked r fun _ => ?_⟩
        cases hm : r.mode with
        | unlockedLocal => exact absurd hm h1
        | unlockedRemote => exact absurd hm h2
        | lockedLocal => exact .inl rfl
        | lockedRemote => exact .inr rfl
    · next offline => exact .inl ⟨rfl, fitsLocked r fun online => absurd online offline⟩
  · exact h

theorem State.Laws.takeLocal {s : State} (h : s.Laws [] []) : s.takeLocal.Laws [] [] :=
  h.retouch (State.foldl_retouches (fun t n => State.localStation n t) State.LiveAt (fun t n live => t.localStation_retouches n live)
    (fun _ _ n touched => touched.liveAt n) _ s fun _ => State.mem_onlineListeners_live)

end Sys2Proof.Machine

/-! ### ROUTE -/

namespace Sys2Proof.Machine

-- One theorem after the other: each thread of its own would take a stack.
set_option Elab.async false

open Sys2Proof.Claims

/-- The accepted port of a record through a ROUTE or RESET LINK frame (R56). -/
def StationRecord.clearPort (r : StationRecord) : StationRecord :=
  if r.policy = .openPort ∧ r.life ≠ .retired then { r with acceptedPort := none } else r

theorem StationRecord.Sound.acceptedPort_clearPort {r : StationRecord} (h : r.Sound) : r.clearPort.acceptedPort = none := by
  unfold StationRecord.clearPort
  split
  · rfl
  · next c =>
    by_contra some
    exact c ⟨h.acceptedPort some, fun retired => some (h.retired retired).2.2.2⟩

theorem State.record_clearAcceptedPorts (s : State) (n : StationNo) :
    s.clearAcceptedPorts.record n = (s.record n).map StationRecord.clearPort :=
  State.record_forAll (fun n m t => t.record_updateRecord n m _) s n

theorem State.memory_clearAcceptedPorts (s : State) : s.clearAcceptedPorts.memory = s.memory :=
  State.forStations_keeps State.memory State.clearAcceptedPort (fun _ _ => rfl) stationNumbers s

/-- No place is occupied, no accepted port is present, and no hold and no stage are there. -/
structure State.Blank (s : State) : Prop where
  places : ∀ i, s.place i = none
  ports : ∀ n r, s.record n = some r → r.acceptedPort = none
  holds : s.holds = []
  privateCopy : s.privateCopy = none
  stage : s.stage = none

theorem State.place_emptyRoute (s : State) (i : Option LaneNo) : s.emptyRoute.place i = none := by
  cases i with
  | none => rfl
  | some l => exact s.lane_emptyRoute l

/-- With the route emptied and no hold and no stage left, the retirements of the stations in `late` are to be reported. -/
theorem State.Laws.of_blank {late late' : List StationNo} {s t : State} (h : s.Laws late []) (blank : t.Blank)
    (records : ∀ n r, t.record n = some r → ∃ q, s.record n = some q ∧ q.Keeps s.remoteEnable s.lockout r)
    (remoteEnable : t.remoteEnable = s.remoteEnable) (lockout : t.lockout = s.lockout) (memory : t.memory = s.memory)
    (reported : ∀ n r, s.record n = some r → r.life = .retiring → n ∈ late') : t.Laws late' [] where
  flags := by rw [remoteEnable, lockout]; exact h.flags
  records n r hr := by
    obtain ⟨q, hq, keeps⟩ := records n r hr
    obtain ⟨sound, fits⟩ := h.records n q hq
    rw [remoteEnable, lockout]
    exact ⟨keeps.sound sound, keeps.modes fits⟩
  onePlace i j p q hp := by rw [blank.places] at hp; cases hp
  occupants i p hp := by rw [blank.places] at hp; cases hp
  accepted n r hr ha := absurd (blank.ports n r hr) ha
  oneHold := by rw [blank.holds]; exact List.nodup_nil
  holders k hk := by rw [blank.holds] at hk; cases hk
  ports n := by simp [blank.places, blank.holds]
  timers k hk := by rw [blank.holds] at hk; cases hk
  copy := by simp [blank.privateCopy, blank.holds]
  stage g hg := by rw [blank.stage] at hg; cases hg
  retiring n r hn hr hl := by
    obtain ⟨q, hq, keeps⟩ := records n r hr
    exact absurd (reported n q hq (keeps.life ▸ hl)) hn
  memory := by rw [memory]; exact h.memory

/-- The route emptied before a ROUTE frame's own places, while no hold is pending and the stage is empty (R62). -/
theorem State.Laws.emptied {s : State} (h : s.Laws [] []) (holds : s.holds = []) (stage : s.stage = none) :
    s.emptyRoute.clearAcceptedPorts.Laws (stationNumbers.filter (fun n => s.hasLife n .retiring && s.hasPlace n)) [] ∧
      s.emptyRoute.clearAcceptedPorts.Blank := by
  have touched := s.emptyRoute.clearAcceptedPorts_retouches
  have blank : s.emptyRoute.clearAcceptedPorts.Blank := by
    refine ⟨fun i => (touched.place i).trans (s.place_emptyRoute i), fun n r hr => ?_, touched.holds.trans holds,
      touched.privateCopy.trans ?_, touched.stage.trans stage⟩
    · rw [State.record_clearAcceptedPorts] at hr
      obtain ⟨q, hq, rfl⟩ := Option.map_eq_some_iff.mp hr
      exact (h.records n q hq).1.acceptedPort_clearPort
    · exact Classical.not_not.mp fun some => by
        obtain ⟨k, hk, _⟩ := h.copy.mp some
        rw [holds] at hk; cases hk
  refine ⟨h.of_blank blank (fun n r hr => touched.origin hr) touched.remoteEnable touched.lockout
    (State.memory_clearAcceptedPorts _) fun n r hr hl => ?_, blank⟩
  · rw [List.mem_filter, Bool.and_eq_true, State.hasLife_iff, State.hasPlace_iff]
    refine ⟨List.mem_finRange n, ⟨r, hr, hl⟩, ?_⟩
    rcases h.retiring n r (by simp) hr hl with placed | held | ⟨g, hg, _⟩
    · exact placed
    · exact absurd held (State.not_held_of_empty holds n)
    · rw [stage] at hg; cases hg

/-- A station with the role a place needs takes it while it holds none, tentatively if its policy is OPEN (R63, R64). -/
theorem State.Laws.seat {late portless : List StationNo} {s t : State} {n : StationNo} {r : StationRecord} {i : Option LaneNo} {b : Bool}
    (h : s.Laws late portless) (same : s.SameButRoute t) (holds : s.holds = []) (stage : s.stage = none)
    (place : ∀ j, t.place j = if j = i then some ⟨n, b⟩ else s.place j) (empty : s.place i = none) (unplaced : ¬ Placed s n)
    (hr : s.record n = some r) (live : r.life ≠ .retired) (role : if i = none then r.mayTalk = true else r.mayListen = true)
    (tentative : b = true → r.policy = .openPort) : t.Laws late (if b then portless ++ [n] else portless) where
  flags := h.flags_of_sameTable same.toSameTable
  records := h.records_of_sameTable same.toSameTable
  onePlace j k p q hp hq e := by
    rw [place] at hp hq
    split at hp <;> split at hq
    · next ej ek => rw [ej, ek]
    · next ej ek =>
      obtain rfl := Option.some.inj hp
      exact absurd ⟨k, q, hq, e.symm⟩ unplaced
    · next ej ek =>
      obtain rfl := Option.some.inj hq
      exact absurd ⟨j, p, hp, e⟩ unplaced
    · exact h.onePlace j k p q hp hq e
  occupants j p hp := by
    rw [same.record]
    rw [place] at hp
    split at hp
    · next ej =>
      obtain rfl := Option.some.inj hp
      rw [ej]
      exact ⟨r, hr, live, role, tentative⟩
    · exact h.occupants j p hp
  accepted m q hq ha := by
    rw [same.record] at hq
    obtain ⟨j, hj⟩ := h.accepted m q hq ha
    have ne : j ≠ i := fun e => by rw [e, empty] at hj; cases hj
    exact ⟨j, by rw [place, if_neg ne]; exact hj⟩
  oneHold := by rw [same.holds]; exact h.oneHold
  holders k hk := by rw [same.holds] at hk; rw [same.record]; exact h.holders k hk
  ports m := by
    have after : (∃ j, t.place j = some ⟨m, true⟩) ↔ (∃ j, s.place j = some ⟨m, true⟩) ∨ (m = n ∧ b = true) := by
      constructor
      · rintro ⟨j, hj⟩
        rw [place] at hj
        split at hj
        · simp only [Option.some.injEq, Place.mk.injEq] at hj
          exact .inr ⟨hj.1.symm, hj.2⟩
        · exact .inl ⟨j, hj⟩
      · rintro (⟨j, hj⟩ | ⟨rfl, rfl⟩)
        · have ne : j ≠ i := fun e => by rw [e, empty] at hj; cases hj
          exact ⟨j, by rw [place, if_neg ne]; exact hj⟩
        · exact ⟨i, by rw [place, if_pos rfl]⟩
    have none : ¬ ∃ k ∈ s.holds, k.station = m ∧ ∃ u q, k.kind = .port u q := by simp [holds]
    rw [after, h.ports m, same.holds]
    cases b with
    | true => simp [none]
    | false => simp [none]
  timers := by rw [same.holds]; exact h.timers
  copy := by rw [same.privateCopy, same.holds]; exact h.copy
  stage g hg := by rw [same.stage, stage] at hg; cases hg
  retiring m q hm hq hl := by
    rw [same.record] at hq
    rcases h.retiring m q hm hq hl with ⟨j, p, hp, e⟩ | held | ⟨g, hg, _⟩
    · have ne : j ≠ i := fun e => by rw [e, empty] at hp; cases hp
      exact .inl ⟨j, p, by rw [place, if_neg ne]; exact hp, e⟩
    · exact absurd held (State.not_held_of_empty holds m)
    · rw [stage] at hg; cases hg
  memory := by rw [same.memory]; exact h.memory

/-- A ROUTE frame half taken: the laws hold but for the PORT holds of the tentative places made so far, whose addresses carry ports. -/
structure RoutePass.Good (late : List StationNo) (p : RoutePass) : Prop where
  laws : p.state.Laws late (p.tentative.map Prod.fst)
  holds : p.state.holds = []
  stage : p.state.stage = none
  nodup : (p.tentative.map Prod.fst).Nodup
  ports : ∀ e ∈ p.tentative, e.2.port ≠ none

/-- A station of policy OPEN is matched by an address with a port alone (R48). -/
theorem StationRecord.port_of_matchesRoute {r : StationRecord} {a : Address} (h : r.matchesRoute a = true) (ho : r.policy = .openPort) :
    a.port ≠ none := by
  obtain ⟨_, hp⟩ := (r.matchesRoute_iff a).mp h
  rw [ho] at hp
  exact Option.isSome_iff_ne_none.mp hp

/-- What is touched alone stays half taken. -/
theorem RoutePass.Good.retouch {late : List StationNo} {p : RoutePass} {t : State} (h : p.Good late) (g : p.state.Retouches t) :
    RoutePass.Good late { p with state := t } :=
  ⟨h.laws.retouch g, g.holds.trans h.holds, g.stage.trans h.stage, h.nodup, h.ports⟩

/-- A place taken by a station that the address matched. -/
theorem RoutePass.Good.seat {late : List StationNo} {p : RoutePass} {t : State} {n : StationNo} {r : StationRecord} {i : Option LaneNo}
    {a : Address} (h : p.Good late) (b : Bool) (same : p.state.SameButRoute t)
    (place : ∀ j, t.place j = if j = i then some ⟨n, b⟩ else p.state.place j) (empty : p.state.place i = none)
    (unplaced : ¬ Placed p.state n) (hr : p.state.record n = some r) (live : r.life ≠ .retired)
    (role : if i = none then r.mayTalk = true else r.mayListen = true) (tentative : b = true → r.policy = .openPort)
    (hit : r.matchesRoute a = true) :
    RoutePass.Good late ⟨t, if b then p.tentative ++ [(n, a)] else p.tentative⟩ := by
  have seated := h.laws.seat same h.holds h.stage place empty unplaced hr live role tentative
  cases b with
  | false => exact ⟨seated, same.holds.trans h.holds, same.stage.trans h.stage, h.nodup, h.ports⟩
  | true =>
    refine ⟨by simpa using seated, same.holds.trans h.holds, same.stage.trans h.stage, ?_, fun e he => ?_⟩
    · simp only [if_true, List.map_append, List.map_cons, List.map_nil]
      refine List.nodup_append.mpr ⟨h.nodup, List.nodup_singleton n, ?_⟩
      rintro m hm m' hm' rfl
      -- A station on the list has a tentative place already.
      obtain ⟨j, hj⟩ := (h.laws.ports m).mpr (.inl hm)
      exact unplaced ⟨j, _, hj, List.mem_singleton.mp hm'⟩
    · rcases List.mem_append.mp he with he | he
      · exact h.ports e he
      · rw [List.mem_singleton.mp he]; exact StationRecord.port_of_matchesRoute hit (tentative rfl)

theorem State.place_setLane (s : State) (l : LaneNo) (p : Option Place) (j : Option LaneNo) :
    (s.setLane l p).place j = if j = some l then p else s.place j := by
  cases j with
  | none => rfl
  | some k =>
    show (s.setLane l p).lane k = _
    rw [State.lane_setLane]
    simp [State.place]

theorem State.place_talkSeat (s : State) (p : Option Place) (j : Option LaneNo) :
    ({ s with talkSeat := p } : State).place j = if j = none then p else s.place j := by
  cases j with
  | none => rfl
  | some k => rfl

/-- An ONLINE record after the address that matched it has been written into it. -/
theorem State.record_writeMatch {s : State} {n : StationNo} {r : StationRecord} (a : Address) (hr : s.record n = some r) :
    (s.writeMatch n a).record n = some { r with lastMatched := some a } := by
  rw [State.writeMatch, State.record_updateRecord, if_pos rfl, hr]; rfl

theorem State.onlineWith_of_online {s : State} {n : StationNo} {r : StationRecord} (h : Online s n r) (p : StationRecord → Bool) :
    s.onlineWith n p = p r := by
  simp [State.onlineWith, h.1, h.2]

/-- Step 2: the talker of a ROUTE frame (R63). -/
theorem RoutePass.Good.seatTalker {late : List StationNo} {s : State} (h : s.Laws late []) (blank : s.Blank) (a : Address) :
    RoutePass.Good late (s.seatTalker a) := by
  have start : RoutePass.Good late ⟨s, []⟩ := ⟨h, blank.holds, blank.stage, List.nodup_nil, fun _ he => by cases he⟩
  unfold State.seatTalker
  split
  · exact start
  · split
    · exact start
    · next n hn =>
      obtain ⟨r, online, hit⟩ := State.resolve_online hn
      have touched := s.writeMatch_retouches n a (.of_online online)
      have wrote := start.retouch touched
      have hr := State.record_writeMatch a online.1
      have unplaced : ¬ Placed (s.writeMatch n a) n := by
        rintro ⟨i, p, hp, _⟩
        rw [touched.place, blank.places] at hp; cases hp
      have empty : (s.writeMatch n a).place none = none := (touched.place none).trans (blank.places none)
      dsimp only
      rw [State.onlineWith_of_online online, State.onlineWith_of_online online]
      split
      · exact wrote.retouch (State.addNotice_retouches _ n _)
      · next talks =>
        have talks : r.mayTalk = true := by simpa using talks
        split
        · next isOpen =>
          exact wrote.seat true ⟨⟨rfl, rfl, rfl, rfl⟩, rfl, rfl, rfl⟩ (State.place_talkSeat _ _) empty unplaced hr (by simp [online.2])
            talks (fun _ => of_decide_eq_true isOpen) hit
        · exact wrote.seat (a := a) false ⟨⟨rfl, rfl, rfl, rfl⟩, rfl, rfl, rfl⟩ (State.place_talkSeat _ _) empty unplaced hr
            (by simp [online.2]) talks (fun e => by cases e) hit

theorem State.laneOverflow_retouches (s : State) (n : StationNo) : s.Retouches (s.laneOverflow n) := by
  unfold State.laneOverflow
  split
  · exact .refl s
  · exact .of_frame ⟨rfl, rfl, rfl, rfl, rfl⟩ rfl rfl rfl rfl

/-- Step 3: one listener entry of a ROUTE frame (R64, R65). -/
theorem RoutePass.Good.seatListener {late : List StationNo} {p : RoutePass} (h : p.Good late) (a : Address) :
    RoutePass.Good late (p.seatListener a) := by
  unfold RoutePass.seatListener
  dsimp only
  split
  · exact h
  · next n hn =>
    obtain ⟨r, online, hit⟩ := State.resolve_online hn
    have touched := p.state.writeMatch_retouches n a (.of_online online)
    have wrote := h.retouch touched
    have hr := State.record_writeMatch a online.1
    rw [State.onlineWith_of_online online, State.onlineWith_of_online online]
    split
    · exact wrote
    · next noPlace =>
      have unplaced : ¬ Placed (p.state.writeMatch n a) n := by
        rw [← State.hasPlace_iff]; exact noPlace
      split
      · exact wrote.retouch (State.addNotice_retouches _ n _)
      · next listens =>
        have listens : r.mayListen = true := by simpa using listens
        split
        · exact wrote.retouch ((State.addNotice_retouches _ n _).trans (State.laneOverflow_retouches _ n))
        · next i hi =>
          have empty : (p.state.writeMatch n a).place (some i) = none :=
            (touched.place (some i)).trans (of_decide_eq_true (List.find?_some (p := fun i => decide (p.state.lane i = none)) hi))
          split
          · next isOpen =>
            exact wrote.seat true ⟨⟨rfl, rfl, rfl, rfl⟩, rfl, rfl, rfl⟩ (State.place_setLane _ i _) empty unplaced hr (by simp [online.2])
              (by simpa using listens) (fun _ => of_decide_eq_true isOpen) hit
          · exact wrote.seat (a := a) false ⟨⟨rfl, rfl, rfl, rfl⟩, rfl, rfl, rfl⟩ (State.place_setLane _ i _) empty unplaced hr
              (by simp [online.2]) (by simpa using listens) (fun e => by cases e) hit

theorem RoutePass.Good.seatListeners {late : List StationNo} (as : List Address) {p : RoutePass} (h : p.Good late) :
    RoutePass.Good late (as.foldl RoutePass.seatListener p) := by
  induction as generalizing p with
  | nil => exact h
  | cons a as ih => exact ih (h.seatListener a)

/-- The PORT holds raised for the tentative places (R67). -/
theorem State.Laws.raisePortHolds {late : List StationNo} (es : List (StationNo × Address)) {s : State}
    (h : s.Laws late (es.map Prod.fst)) (stage : s.stage = none) (nodup : (es.map Prod.fst).Nodup) (ports : ∀ e ∈ es, e.2.port ≠ none)
    (free : ∀ e ∈ es, ¬ Held s e.1) : (es.foldl State.raisePortHold s).Laws late [] := by
  induction es generalizing s with
  | nil => exact h
  | cons e es ih =>
    rw [List.map_cons, List.nodup_cons] at nodup
    obtain ⟨q, hq⟩ := Option.ne_none_iff_exists'.mp (ports e (List.mem_cons_self ..))
    have raise : s.raisePortHold e = s.raiseHold e.1 (.port e.2.unit q) := by rw [State.raisePortHold, hq]
    have live : s.LiveAt e.1 := by
      obtain ⟨i, hi⟩ := (h.ports e.1).mpr (.inl (List.mem_cons_self ..))
      obtain ⟨r, hr, live, _⟩ := h.occupants i _ hi
      exact ⟨r, hr, live⟩
    have raised := State.Laws.raisePort e.2.unit q h live (free e (List.mem_cons_self ..)) fun ⟨g, hg, _⟩ => by rw [stage] at hg; cases hg
    rw [List.foldl_cons, raise]
    refine ih raised stage nodup.2 (fun e' he' => ports e' (List.mem_cons_of_mem _ he')) fun e' he' held => ?_
    rcases (State.held_raiseAll _ [e.1] s e'.1).mp held with held | own
    · exact free e' (List.mem_cons_of_mem _ he') held
    · exact nodup.1 (List.mem_singleton.mp own ▸ List.mem_map_of_mem he')

/-- A ROUTE frame, taken while no hold is pending and the stage is empty (R61 to R67). -/
theorem State.Laws.takeRoute {s : State} (h : s.Laws [] []) (holds : s.holds = []) (stage : s.stage = none) (talker : Address)
    (listeners : List Address) : (s.takeRoute talker listeners).Laws [] [] := by
  obtain ⟨emptied, blank⟩ := h.emptied holds stage
  have seated := (RoutePass.Good.seatTalker emptied blank talker).seatListeners listeners
  unfold State.takeRoute
  dsimp only
  generalize listeners.foldl RoutePass.seatListener (s.emptyRoute.clearAcceptedPorts.seatTalker talker) = p at seated
  have touched : p.state.Retouches (p.state.listeners.foldl State.remoteTransition p.state) :=
    State.foldl_retouches _ State.LiveAt (fun t n => t.remoteTransition_retouches n) (fun _ _ n g => g.liveAt n) _ _ fun n hn => by
      obtain ⟨r, hr, live, _⟩ := seated.laws.listener ((State.mem_listeners _ n).mp hn)
      exact ⟨r, hr, live⟩
  have transited := seated.retouch touched
  exact (transited.laws.raisePortHolds p.tentative transited.stage transited.nodup transited.ports fun e _ =>
    State.not_held_of_empty transited.holds e.1).reportReleases _

/-! ### RESET LINK and DETACH -/

theorem State.forStations_retouches {f : StationNo → State → State} (hf : ∀ n (t : State), t.Retouches (f n t)) (ns : List StationNo)
    (s : State) : s.Retouches (s.forStations ns f) :=
  State.foldl_retouches_all (fun t n => f n t) (fun t n => hf n t) ns s

/-- The state with the route emptied, the holds withdrawn and the stage dropped. -/
def State.released (s : State) : State := { s.emptyRoute.clearAcceptedPorts with holds := [], privateCopy := none, stage := none }

theorem State.resetTransfers_eq (s : State) : s.resetTransfers =
    (s.released.forStations stationNumbers (State.resetStation s)).forStations stationNumbers State.reportRelease := rfl

theorem State.Laws.released {s : State} (h : s.Laws [] []) : s.released.Laws stationNumbers [] ∧ s.released.Blank := by
  have touched := s.emptyRoute.clearAcceptedPorts_retouches
  have record := s.emptyRoute.record_clearAcceptedPorts
  have memory := s.emptyRoute.memory_clearAcceptedPorts
  unfold State.released
  generalize s.emptyRoute.clearAcceptedPorts = t at touched record memory
  have blank : State.Blank { t with holds := [], privateCopy := none, stage := none } := by
    refine ⟨fun i => ?_, fun n r hr => ?_, rfl, rfl, rfl⟩
    · exact (State.place_congr (s := t) rfl rfl i).trans ((touched.place i).trans (s.place_emptyRoute i))
    · have hr : t.record n = some r := hr
      rw [record] at hr
      obtain ⟨q, hq, rfl⟩ := Option.map_eq_some_iff.mp hr
      exact (h.records n q hq).1.acceptedPort_clearPort
  exact ⟨h.of_blank blank (fun n r hr => touched.origin hr) touched.remoteEnable touched.lockout memory
    fun n _ _ _ => List.mem_finRange n, blank⟩

theorem State.reportRelease_sameBlocks (n : StationNo) (s : State) : s.SameBlocks (State.reportRelease n s) := by
  rw [State.reportRelease_frame]
  exact ⟨rfl, rfl, rfl, rfl, rfl⟩

/-- With the transfers reset and the retirements this completes, all the laws hold again and the route is still empty (R43). -/
theorem State.Laws.resetTransfers {s : State} (h : s.Laws [] []) : s.resetTransfers.Laws [] [] ∧ s.resetTransfers.Blank := by
  obtain ⟨released, blank⟩ := h.released
  have reset := State.forStations_retouches (State.resetStation_retouches s) stationNumbers s.released
  rw [State.resetTransfers_eq]
  generalize s.released.forStations stationNumbers (State.resetStation s) = t at reset
  have laws := (released.retouch reset).reportReleases stationNumbers
  have all := reset.toSameBlocks.trans (State.forStations_sameBlocks State.reportRelease_sameBlocks stationNumbers t)
  generalize t.forStations stationNumbers State.reportRelease = u at laws all
  refine ⟨laws, fun i => (all.place i).trans (blank.places i), fun n r hr => ?_, all.holds.trans blank.holds,
    all.privateCopy.trans blank.privateCopy, all.stage.trans blank.stage⟩
  -- An accepted port would need a place.
  by_contra some
  obtain ⟨i, hi⟩ := laws.accepted n r hr some
  rw [all.place, blank.places] at hi
  cases hi

/-! ## A frame taken -/

/-- A DATA frame has a body as R30 wants it; the other kinds need nothing. -/
def ControllerFrame.fits : ControllerFrame → Prop
  | .data endMark body => body.length ≤ 32 ∧ (endMark = true ∨ body ≠ [])
  | _ => True

/-- A frame taken keeps the laws: RESET LINK in any state, and the others while the part does not drive LBUSY (R33). -/
theorem State.Laws.takeFrame {s : State} {f : ControllerFrame} (h : s.Laws [] []) (fits : f.fits)
    (idle : f = .resetLink ∨ (s.holds = [] ∧ s.stage = none)) : (s.takeFrame f).Laws [] [] := by
  by_cases reset : f = .resetLink
  · subst reset
    have seen : s.Retouches s.linkResetSeen := .of_frame ⟨rfl, rfl, rfl, rfl, rfl⟩ rfl rfl rfl rfl
    exact (h.retouch seen).resetTransfers.1
  · obtain ⟨holds, stage⟩ := idle.resolve_left reset
    cases f with
    | route talker listeners => exact h.takeRoute holds stage talker listeners
    | data endMark body => exact h.takeData holds stage fits.1 fits.2
    | fetch => exact h.retouch s.takeFetch_retouches
    | poll a => exact h.retouch (s.takePoll_retouches a)
    | clear scope => exact h.takeClear holds stage scope
    | trigger => exact h.takeTrigger holds stage
    | remote on => exact h.takeRemote on
    | lockout => exact h.takeLockout
    | localFrame => exact h.takeLocal
    | resetLink => exact absurd rfl reset
    | privateFrame code body => exact h.takePrivate holds stage code body

end Sys2Proof.Machine

/-! ## The commands of the host -/

namespace Sys2Proof.Machine

-- One theorem after the other: each thread of its own would take a stack.
set_option Elab.async false

open Sys2Proof.Claims

/-! ### Leaving the owed set -/

theorem State.leaveOwed_frame (s : State) (n : StationNo) : s.leaveOwed n = { s with stage := stageWithout s n } := by
  unfold State.leaveOwed stageWithout
  cases e : s.stage with
  | none =>
    show s = { s with stage := none }
    rw [← e]
  | some g => rfl

theorem stageWithout_eq_some {s : State} {n : StationNo} {g' : Stage} : stageWithout s n = some g' ↔
    ∃ g, s.stage = some g ∧ g.owed.filter (fun m => decide (m ≠ n)) ≠ [] ∧
      g' = { g with owed := g.owed.filter (fun m => decide (m ≠ n)) } := by
  unfold stageWithout
  cases s.stage with
  | none => simp
  | some g =>
    dsimp only
    split
    · next e => simp only [reduceCtorEq, Option.some.injEq, exists_eq_left', ne_eq, e, not_true_eq_false, false_and]
    · next e => simp only [Option.some.injEq, exists_eq_left', ne_eq, e, not_false_eq_true, true_and]; exact eq_comm

/-- The stations owed once one has left the set. -/
theorem owed_stageWithout {s t : State} {n : StationNo} (h : t.stage = stageWithout s n) (m : StationNo) :
    Owed t m ↔ Owed s m ∧ m ≠ n := by
  simp only [Owed, h, stageWithout_eq_some]
  constructor
  · rintro ⟨_, ⟨g, hg, _, rfl⟩, hm⟩
    rw [List.mem_filter, decide_eq_true_eq] at hm
    exact ⟨⟨g, hg, hm.1⟩, hm.2⟩
  · rintro ⟨⟨g, hg, hm⟩, ne⟩
    have left : m ∈ g.owed.filter (fun m => decide (m ≠ n)) := List.mem_filter.mpr ⟨hm, by simpa using ne⟩
    exact ⟨_, ⟨g, hg, List.ne_nil_of_mem left, rfl⟩, left⟩

/-- What the law of the stage says of it once a station has left the owed set, when the stations that stay owed keep what they have. -/
theorem State.stageLaw_without {s t : State} {n : StationNo} (h : s.stageLaw) (stage : t.stage = stageWithout s n)
    (keeps : ∀ m, m ≠ n → (∃ l, s.lane l = some ⟨m, false⟩) ∧ s.pendingHold m = none ∧
      (∃ r, s.record m = some r ∧ r.inbound.isComplete = true) → (∃ l, t.lane l = some ⟨m, false⟩) ∧ t.pendingHold m = none ∧
      ∃ r, t.record m = some r ∧ r.inbound.isComplete = true) : t.stageLaw := by
  intro g' hg'
  rw [stage] at hg'
  obtain ⟨g, hg, owing, rfl⟩ := stageWithout_eq_some.mp hg'
  obtain ⟨length, content, _, ascending, timer, owed⟩ := h g hg
  refine ⟨length, content, owing, ascending.filter _, timer, fun m hm => ?_⟩
  rw [List.mem_filter, decide_eq_true_eq] at hm
  exact keeps m hm.2 (owed m hm.1)

theorem State.Laws.leaveOwed {late portless : List StationNo} {s : State} (n : StationNo) (h : s.Laws late portless) :
    (s.leaveOwed n).Laws (n :: late) portless := by
  rw [State.leaveOwed_frame]
  exact { h with
    stage := State.stageLaw_without h.stage rfl fun _ _ e => e
    retiring := fun m r hm hr hl => by
      rw [List.mem_cons, not_or] at hm
      rcases h.retiring m r hm.2 hr hl with placed | held | owed
      · exact .inl placed
      · exact .inr (.inl held)
      · exact .inr (.inr ((owed_stageWithout rfl m).mpr ⟨owed, hm.1⟩)) }

/-! ### RELEASE INBOUND -/

theorem State.record_leaveOwed (s : State) (n m : StationNo) : (s.leaveOwed n).record m = s.record m := by
  rw [State.leaveOwed_frame]; rfl

theorem State.leaveOwed_updateRecord (s : State) (n m : StationNo) (f : StationRecord → StationRecord) :
    (s.updateRecord m f).leaveOwed n = (s.leaveOwed n).updateRecord m f := by
  rw [State.leaveOwed_frame, State.leaveOwed_frame]; rfl

theorem State.leaveOwed_raiseHold (s : State) (n m : StationNo) (k : HoldKind) :
    (s.raiseHold m k).leaveOwed n = (s.leaveOwed n).raiseHold m k := by
  rw [State.leaveOwed_frame, State.leaveOwed_frame]; rfl

theorem State.leaveOwed_addNotice (s : State) (n m : StationNo) (k : NoticeKind) :
    (s.addNotice m k).leaveOwed n = (s.leaveOwed n).addNotice m k := by
  unfold State.addNotice State.changeNotices
  rw [State.record_leaveOwed]
  split
  · rfl
  · rw [State.leaveOwed_frame, State.leaveOwed_frame]; rfl

theorem State.leaveOwed_storeFrame (s : State) (n m : StationNo) (body : List Byte) (endMark : Bool) :
    (s.storeFrame m body endMark).leaveOwed n = (s.leaveOwed n).storeFrame m body endMark := by
  have stored (i : Inbound) (base : Nat) :
      State.leaveOwed { s.updateRecord m (fun r => { r with inbound := i }) with memory := Memory.writeList s.memory base body } n =
        { (s.leaveOwed n).updateRecord m (fun r => { r with inbound := i }) with
          memory := Memory.writeList (s.leaveOwed n).memory base body } := by
    rw [State.leaveOwed_frame, State.leaveOwed_frame]; rfl
  unfold State.storeFrame
  rw [State.record_leaveOwed]
  split
  · rfl
  · dsimp only
    split
    · rw [State.leaveOwed_addNotice, stored]
    · rw [stored]

/-- A delivery leaves the same whether its station leaves the owed set before or after the store (R106). -/
theorem State.deliverStaged_eq (s : State) (n : StationNo) (g : Stage) : ∃ held : Bool, s.deliverStaged n g = State.reportRelease n
    (if held then ((s.leaveOwed n).storeFrame n g.body g.endMark).raiseHold n .endOfMessage
    else (s.leaveOwed n).storeFrame n g.body g.endMark) := by
  have held (b : Bool) (u : State) : (if b then u.raiseHold n .endOfMessage else u).leaveOwed n =
      if b then (u.leaveOwed n).raiseHold n .endOfMessage else u.leaveOwed n := by
    cases b
    · rfl
    · exact u.leaveOwed_raiseHold n n .endOfMessage
  unfold State.deliverStaged
  dsimp only
  rw [held, State.leaveOwed_storeFrame]
  exact ⟨_, rfl⟩

/-- The region of a station outside the owed set is released (R105). -/
theorem State.Laws.emptyInbound {late : List StationNo} {s : State} {n : StationNo} {r : StationRecord} (h : s.Laws late [])
    (hr : s.record n = some r) (unowed : ¬ Owed s n) : (s.updateRecord n (fun r => { r with inbound := .empty })).Laws late [] := by
  obtain ⟨sound, fits⟩ := h.records n r hr
  refine h.replaceRecord (n := n) (o := some { r with inbound := .empty }) ⟨rfl, rfl, rfl, rfl, rfl⟩ rfl rfl rfl (fun m => ?_)
    (fun _ _ => id) (fun q hq => ?_) (fun r' hr' _ => ?_) fun _ _ _ _ owed => absurd owed unowed
  · rw [State.record_updateRecord, hr]; rfl
  · obtain rfl := Option.some.inj hq
    obtain ⟨⟨unit, roles, inRegion, outRegion, _, outbound, accepted, quiet, retired⟩, range⟩ := sound
    refine ⟨⟨⟨unit, roles, inRegion, outRegion, trivial, outbound, accepted, quiet, fun e => ⟨rfl, (retired e).2⟩⟩, range⟩, fits,
      fun ha => ⟨r, hr, ha⟩, fun hl => ?_⟩
    by_cases hn : n ∈ late
    · exact .inl hn
    · exact .inr (h.retiring n r hn hr hl)
  · obtain rfl := Option.some.inj (hr.symm.trans hr')
    exact ⟨_, rfl, id, rfl, rfl, rfl⟩

theorem State.Laws.ite_state {late portless : List StationNo} {s t : State} (b : Bool) (hs : s.Laws late portless)
    (ht : t.Laws late portless) : (if b then s else t).Laws late portless := by
  cases b
  · exact ht
  · exact hs

/-- The staged frame delivered into the region its station has just released (R106). -/
theorem State.Laws.deliverStaged {s : State} {n : StationNo} {g : Stage} (h : s.Laws [] []) (hg : s.stage = some g) (hn : n ∈ g.owed) :
    ((s.updateRecord n (fun r => { r with inbound := .empty })).deliverStaged n g).Laws [] [] := by
  obtain ⟨length, content, _, _, _, owed⟩ := h.stage g hg
  obtain ⟨seated, free, _⟩ := owed n hn
  obtain ⟨r, hr, live, listener⟩ := h.listener seated
  have hr' : (s.leaveOwed n).record n = some r := (s.record_leaveOwed n n).trans hr
  have unowed : ¬ Owed (s.leaveOwed n) n := fun e =>
    ((owed_stageWithout (t := s.leaveOwed n) (by rw [State.leaveOwed_frame]) n).mp e).2 rfl
  have emptied := (h.leaveOwed n).emptyInbound hr' unowed
  have hq : ((s.leaveOwed n).updateRecord n (fun r => { r with inbound := .empty })).record n = some { r with inbound := .empty } := by
    rw [State.record_updateRecord, if_pos rfl, hr']; rfl
  have sound := (emptied.records n _ hq).1
  have room : StationRecord.hasRoom { r with inbound := .empty } g.body.length = true := by
    obtain ⟨region, hregion⟩ := Option.ne_none_iff_exists'.mp (sound.inRegion_iff.mpr ⟨listener, live⟩)
    have range := sound.range live true region hregion
    have capacity : regionCapacity r.inRegion = region.count * 32 := by rw [show r.inRegion = some region from hregion]; rfl
    have fits : 0 + g.body.length ≤ regionCapacity r.inRegion := by omega
    exact decide_eq_true fits
  have touched := State.storeFrame_retouches hq sound live listener room content
  have stored := emptied.retouch touched
  have held : ¬ Held (((s.leaveOwed n).updateRecord n (fun r => { r with inbound := .empty })).storeFrame n g.body g.endMark) n := by
    have same : ((s.leaveOwed n).updateRecord n (fun r => { r with inbound := .empty })).holds = s.holds := by
      rw [State.leaveOwed_frame]; rfl
    rw [State.pendingHold_eq_none] at free
    rw [Held, touched.holds, same]
    exact free
  have stillUnowed : ¬ Owed (((s.leaveOwed n).updateRecord n (fun r => { r with inbound := .empty })).storeFrame n g.body g.endMark) n := by
    rw [Owed, touched.stage]
    exact unowed
  obtain ⟨b, delivered⟩ := State.deliverStaged_eq (s.updateRecord n (fun r => { r with inbound := .empty })) n g
  rw [delivered, State.leaveOwed_updateRecord]
  refine State.Laws.reportRelease (State.Laws.ite_state _ ?_ stored)
  exact stored.raiseHold (nofun) (nofun) (touched.liveAt n ⟨_, hq, live⟩) held stillUnowed

theorem State.Laws.releaseInbound {s : State} (h : s.Laws [] []) (p : ParamBlock) : (releaseInboundCommand p s).state.Laws [] [] := by
  unfold releaseInboundCommand
  split
  · exact h
  · next n _ =>
    refine withStation_cases (fun o => o.state.Laws [] []) h h fun r hr _ => ?_
    split
    · dsimp only
      split
      · next e => exact h.emptyInbound hr fun ⟨g, hg, _⟩ => by rw [e] at hg; cases hg
      · next g hg =>
        split
        · next hn => exact h.deliverStaged hg hn
        · next hn =>
          exact h.emptyInbound hr fun ⟨g', hg', hn'⟩ => by
            obtain rfl := Option.some.inj (hg.symm.trans hg')
            exact hn hn'
    · exact h

/-! ### DEFINE STATION -/

/-- A station with an obligation has a record (R59, R76, R103). -/
theorem State.Laws.liveAt_of_obliged {late portless : List StationNo} {s : State} {n : StationNo} (h : s.Laws late portless)
    (obliged : Obliged s n) : s.LiveAt n := by
  rcases obliged with ⟨i, p, hp, rfl⟩ | ⟨k, hk, rfl⟩ | ⟨g, hg, hn⟩
  · obtain ⟨r, hr, live, _⟩ := h.occupants i p hp
    exact ⟨r, hr, live⟩
  · exact h.holders k hk
  · obtain ⟨_, _, _, _, _, owed⟩ := h.stage g hg
    obtain ⟨r, hr, live, _⟩ := h.listener (owed n hn).1
    exact ⟨r, hr, live⟩

/-- The record a good DEFINE STATION makes is sound (R2, R4, R14). -/
theorem newRecord_sound {p : ParamBlock} (pass : ∀ k, fieldPasses p k) (lockout : Bool) :
    (newRecord (definitionOf p) lockout).Sound := by
  obtain ⟨small, unit⟩ := (unitTest_iff p).mpr (pass 3)
  have present (role : Bool) (first count : Byte) : regionOf role first count ≠ none ↔ role = true := by
    cases role <;> simp [regionOf]
  refine ⟨⟨?_, ?_, ?_, ?_, trivial, trivial, ?_, ?_, ?_⟩, fun _ i g hg => definitionOf_region_range pass lockout hg⟩
  · have val : (newRecord (definitionOf p) lockout).unit.val = p[2].toNat := Nat.mod_eq_of_lt small
    rw [val]; exact unit
  · have roles := mt (rolesTest_iff p).mp (fun h => h (pass 6))
    simp only [newRecord, definitionOf]
    cases h0 : p[5].getLsbD 0 <;> cases h1 : p[5].getLsbD 1 <;> simp_all
  · simp only [newRecord, definitionOf, present, ne_eq, reduceCtorEq, not_false_eq_true, and_true]
  · simp only [newRecord, definitionOf, present, ne_eq, reduceCtorEq, not_false_eq_true, and_true]
  · exact fun h => absurd rfl h
  · exact fun h => absurd rfl h
  · exact fun h => by cases h

theorem newRecord_modeFits (d : Definition) {remote lockout : Bool} (flags : lockout = true → remote = true) :
    (newRecord d lockout).modeFits remote lockout := by
  intro _
  cases lockout with
  | false => exact ⟨fun _ => rfl, fun _ _ => .inl rfl, by simp⟩
  | true => rw [flags rfl]; exact ⟨by simp, by simp, fun _ => .inl rfl⟩

theorem State.Laws.defineStation {s : State} (h : s.Laws [] []) (p : ParamBlock) : (defineStationCommand p s).state.Laws [] [] := by
  rcases defineStation_cases p s with e | ⟨n, pass, admits, e⟩
  · rw [e]; exact h
  · rw [e]
    have unobliged : ¬ Obliged s n := fun obliged => by
      obtain ⟨r, hr, _⟩ := h.liveAt_of_obliged obliged
      rw [admits.free] at hr; cases hr
    refine h.replaceRecord (n := n) ⟨rfl, rfl, rfl, rfl, rfl⟩ rfl rfl rfl (s.record_setRecord n · _) (fun _ _ => id) (fun q hq => ?_)
      (fun _ _ obliged => absurd obliged unobliged) fun _ _ _ _ owed => absurd (.inr (.inr owed)) unobliged
    obtain rfl := Option.some.inj hq
    exact ⟨newRecord_sound pass s.lockout, newRecord_modeFits _ h.flags, fun ha => absurd rfl ha, fun hl => by cases hl⟩

/-! ### RETIRE STATION -/

theorem State.Laws.retireGraceful {s : State} {n : StationNo} {r : StationRecord} (h : s.Laws [] []) (hr : s.record n = some r) :
    (retireGraceful s n).state.Laws [] [] := by
  have touched := s.quietStation_retouches n
  have quiet := h.retouch touched
  have hq : (s.quietStation n).record n = some r.quiet := by rw [State.record_quietStation, if_pos rfl, hr]; rfl
  unfold Machine.retireGraceful
  dsimp only
  split
  · next obliged =>
    rw [State.hasObligation_iff] at obliged
    obtain ⟨⟨⟨unit, roles, inRegion, outRegion, inbound, outbound, accepted, _, retired⟩, range⟩, _⟩ := quiet.records n _ hq
    have live : r.quiet.life ≠ .retired := by
      obtain ⟨r', hr', live⟩ := quiet.liveAt_of_obliged obliged
      obtain rfl := Option.some.inj (hq.symm.trans hr')
      exact live
    refine quiet.replaceRecord (n := n) (o := some { r.quiet with life := .retiring }) ⟨rfl, rfl, rfl, rfl, rfl⟩ rfl rfl rfl (fun m => ?_)
      (fun _ _ => id) (fun q e => ?_) (fun r' hr' _ => ?_) fun r' q hr' e _ complete => ?_
    · rw [CommandOutcome.plain, State.record_updateRecord, hq]; rfl
    · obtain rfl := Option.some.inj e
      refine ⟨⟨⟨unit, roles, ?_, ?_, inbound, outbound, accepted, fun _ => ⟨rfl, rfl⟩, fun e => by cases e⟩, fun _ => range live⟩,
        (nomatch ·), fun ha => ⟨_, hq, ha⟩, fun _ => .inr obliged⟩
      · simpa [live] using inRegion
      · simpa [live] using outRegion
    · obtain rfl := Option.some.inj (hq.symm.trans hr')
      exact ⟨_, rfl, fun _ => by simp, rfl, rfl, rfl⟩
    · obtain rfl := Option.some.inj (hq.symm.trans hr')
      obtain rfl := Option.some.inj e
      exact complete
  · next free =>
    rw [State.hasObligation_iff] at free
    exact (quiet.mono_late (late' := [n]) (by simp)).becomeRetired hq rfl rfl free

/-- A station taken out of the route, the hold list and the owed set, and RETIRED (R22, R23). -/
theorem State.Laws.cut {s t : State} {n : StationNo} {q : StationRecord} (h : s.Laws [] []) (remoteEnable : t.remoteEnable = s.remoteEnable)
    (lockout : t.lockout = s.lockout) (memory : t.memory = s.memory) (records : ∀ m, t.record m = if m = n then some q else s.record m)
    (places : ∀ i, t.place i = vacate (s.place i) n) (holds : t.holds = s.holds.filter (fun k => decide (k.station ≠ n)))
    (copy : t.privateCopy ≠ none ↔ ∃ k ∈ t.holds, k.kind = .privateFrame) (stage : t.stage = stageWithout s n) (sound : q.Sound)
    (retired : q.life = .retired) : t.Laws [] [] := by
  have mem {k : Hold} : k ∈ t.holds ↔ k ∈ s.holds ∧ k.station ≠ n := by simp [holds]
  have place {i : Option LaneNo} {p : Place} : t.place i = some p ↔ s.place i = some p ∧ p.station ≠ n := by
    rw [places, vacate_eq_some]
  have others {m : StationNo} (ne : m ≠ n) : t.record m = s.record m := by rw [records, if_neg ne]
  have unretired {m : StationNo} {r : StationRecord} (hr : t.record m = some r) (hl : r.life ≠ .retired) :
      m ≠ n ∧ s.record m = some r := by
    have ne : m ≠ n := fun e => by
      rw [e, records, if_pos rfl] at hr
      exact hl (Option.some.inj hr ▸ retired)
    exact ⟨ne, others ne ▸ hr⟩
  refine ⟨?_, fun m r hr => ?_, fun i j p p' hp hp' => ?_, fun i p hp => ?_, fun m r hr ha => ?_, ?_, fun k hk => ?_, fun m => ?_,
    fun k hk => h.timers k (mem.mp hk).1, copy, State.stageLaw_without h.stage stage fun m ne => ?_, fun m r _ hr hl => ?_, ?_⟩
  · rw [remoteEnable, lockout]; exact h.flags
  · rw [remoteEnable, lockout]
    rw [records] at hr
    split at hr
    · obtain rfl := Option.some.inj hr
      exact ⟨sound, fun e => by rw [retired] at e; cases e⟩
    · exact h.records m r hr
  · exact h.onePlace i j p p' (place.mp hp).1 (place.mp hp').1
  · rw [others (place.mp hp).2]
    exact h.occupants i p (place.mp hp).1
  · have ne : m ≠ n := fun e => by
      rw [e, records, if_pos rfl] at hr
      obtain rfl := Option.some.inj hr
      exact ha (sound.retired retired).2.2.2
    obtain ⟨i, hi⟩ := h.accepted m r (others ne ▸ hr) ha
    exact ⟨i, place.mpr ⟨hi, ne⟩⟩
  · rw [holds]; exact h.oneHold.sublist (List.filter_sublist.map _)
  · rw [others (mem.mp hk).2]; exact h.holders k (mem.mp hk).1
  · simp only [place, mem]
    rw [exists_and_right, h.ports m]
    simp only [List.not_mem_nil, false_or]
    constructor
    · rintro ⟨⟨k, hk, e, port⟩, ne⟩; exact ⟨k, ⟨hk, fun e' => ne (e.symm.trans e')⟩, e, port⟩
    · rintro ⟨k, ⟨hk, ne⟩, e, port⟩; exact ⟨⟨k, hk, e, port⟩, fun e' => ne (e.trans e')⟩
  · rintro ⟨⟨l, hl⟩, free, complete⟩
    rw [State.pendingHold_eq_none] at free ⊢
    exact ⟨⟨l, (place (i := some l)).mpr ⟨hl, ne⟩⟩, fun ⟨k, hk, e⟩ => free ⟨k, (mem.mp hk).1, e⟩, others ne ▸ complete⟩
  · obtain ⟨ne, hr⟩ := unretired hr (by simp [hl])
    rcases h.retiring m r (by simp) hr hl with ⟨i, p, hp, e⟩ | ⟨k, hk, e⟩ | owed
    · exact .inl ⟨i, p, place.mpr ⟨hp, e ▸ ne⟩, e⟩
    · exact .inr (.inl ⟨k, mem.mpr ⟨hk, e ▸ ne⟩, e⟩)
    · exact .inr (.inr ((owed_stageWithout stage m).mpr ⟨owed, ne⟩))
  · rw [memory]; exact h.memory

/-- All that the cuts of RETIRE STATION IMMEDIATE leave of the route, the holds, the copy and the stage (R71, R91, R109). -/
theorem State.cutStation_eq (s : State) (n : StationNo) : s.cutStation n =
    { s with
      talkSeat := (s.freePlaces n).talkSeat
      lanes := (s.freePlaces n).lanes
      holds := s.holds.filter (fun k => decide (k.station ≠ n))
      privateCopy := (s.removeHold n).discardPrivateCopy.privateCopy
      stage := stageWithout s n } := by
  have copy : ((s.freePlaces n).removeHold n).discardPrivateCopy.privateCopy = (s.removeHold n).discardPrivateCopy.privateCopy := by
    unfold State.discardPrivateCopy
    rw [State.removeHold_holds, State.removeHold_holds, State.freePlaces_frame]
    split <;> rfl
  rw [State.cutStation, State.leaveOwed_frame, State.discardPrivateCopy_frame, copy]
  rfl

theorem State.Laws.retireImmediate {s : State} {n : StationNo} {r : StationRecord} (h : s.Laws [] []) (hr : s.record n = some r) :
    (retireImmediate s n r).state.Laws [] [] := by
  -- The station is quiet before the cuts, whether it was ONLINE or RETIRING.
  obtain ⟨t, q, laws, hq, quiet, ht⟩ : ∃ t : State, ∃ q : StationRecord, t.Laws [] [] ∧ t.record n = some q ∧
      (q.request = .quiet ∧ q.outbound = .empty) ∧ (Machine.retireImmediate s n r).state = (t.cutStation n).becomeRetired n := by
    by_cases online : r.life = .online
    · refine ⟨s.quietStation n, r.quiet, h.retouch (s.quietStation_retouches n), ?_, ⟨rfl, rfl⟩, ?_⟩
      · rw [State.record_quietStation, if_pos rfl, hr]; rfl
      · rw [Machine.retireImmediate, if_pos online]; rfl
    · refine ⟨s, r, h, hr, (h.records n r hr).1.quiet online, ?_⟩
      rw [Machine.retireImmediate, if_neg online]; rfl
  rw [ht]
  have blocks := (t.cutStation n).becomeRetired_sameBlocks n
  obtain ⟨remoteEnable, lockout, memory⟩ := (t.cutStation n).becomeRetired_flags n
  have copy := (t.removeHold n).discardPrivateCopy_copy fun ⟨k, hk, e⟩ => laws.copy.mpr ⟨k, List.mem_of_mem_filter hk, e⟩
  rw [State.cutStation_eq] at blocks remoteEnable lockout memory
  refine laws.cut (n := n) (q := q.retire) (by rw [State.cutStation_eq]; exact remoteEnable) (by rw [State.cutStation_eq]; exact lockout)
    (by rw [State.cutStation_eq]; exact memory) (fun m => ?_) (fun i => ?_) (by rw [State.cutStation_eq]; exact blocks.holds) ?_
    (by rw [State.cutStation_eq]; exact blocks.stage) ((laws.records n q hq).1.retire quiet.1 quiet.2) rfl
  · rw [State.record_becomeRetired, State.record_congr (t.stations_cutStation n), State.record_congr (t.stations_cutStation n), hq]; rfl
  · rw [State.cutStation_eq, blocks.place i, ← State.place_freePlaces]
    exact State.place_congr (s := t.freePlaces n) rfl rfl i
  · rw [State.cutStation_eq, blocks.privateCopy, blocks.holds]
    exact copy.trans (by rw [State.discardPrivateCopy_frame]; rfl)

theorem State.Laws.retireStation {s : State} (h : s.Laws [] []) (p : ParamBlock) : (retireStationCommand p s).state.Laws [] [] := by
  unfold retireStationCommand
  split
  · exact h
  · split
    · exact withStation_cases (fun o => o.state.Laws [] []) h h fun r hr _ => h.retireGraceful hr
    · split
      · exact withStation_cases (fun o => o.state.Laws [] []) h h fun r hr _ => h.retireImmediate hr
      · exact h

end Sys2Proof.Machine

/-! ## The commands of the host that touch one record, and the link -/

namespace Sys2Proof.Machine

-- One theorem after the other: each thread of its own would take a stack.
set_option Elab.async false

open Sys2Proof.Claims

/-! ### What a command leaves of the link -/

/-- The replies and the two flags, which no command but DETACH changes. -/
def State.wires (s : State) : Option ReplyFrame × Option ReplyFrame × Bool × Bool :=
  (s.replyWaiting, s.replySending, s.remoteEnable, s.lockout)

/-- No hold is pending and the stage is empty, so LBUSY is not driven (R37). -/
def State.Idle (s : State) : Prop := s.holds = [] ∧ s.stage = none

/-- From a state without holds and stage the change raises none, seats no station, and leaves the replies and the flags alone. -/
def State.Settles (s t : State) : Prop :=
  s.Idle → t.Idle ∧ (∀ i, s.place i = none → t.place i = none) ∧ t.wires = s.wires

theorem State.Settles.of_sameBlocks {s t : State} (same : s.SameBlocks t) (wires : t.wires = s.wires) : s.Settles t :=
  fun ⟨holds, stage⟩ => ⟨⟨same.holds.trans holds, same.stage.trans stage⟩, fun i e => (same.place i).trans e, wires⟩

theorem State.Settles.refl (s : State) : s.Settles s := .of_sameBlocks ⟨rfl, rfl, rfl, rfl, rfl⟩ rfl

theorem State.Settles.trans {s t u : State} (h : s.Settles t) (g : t.Settles u) : s.Settles u := fun idle => by
  obtain ⟨idle, places, wires⟩ := h idle
  obtain ⟨idle', places', wires'⟩ := g idle
  exact ⟨idle', fun i e => places' i (places i e), wires'.trans wires⟩

/-- The law of the link interface survives what settles, if the attach state and the reception do (R33, R40). -/
theorem State.linkLaw_of_settles {s t : State} (law : s.linkLaw) (attached : t.attached = s.attached) (reception : t.reception = s.reception)
    (settles : s.Settles t) : t.linkLaw := by
  obtain ⟨detached, quiet⟩ := law
  refine ⟨fun off => ?_, fun receiving => ?_⟩
  · obtain ⟨places, holds, stage, waiting, sending, gap, remote, lock⟩ := detached (attached ▸ off)
    obtain ⟨⟨holds', stage'⟩, places', wires⟩ := settles ⟨holds, stage⟩
    simp only [State.wires, Prod.mk.injEq] at wires
    obtain ⟨waiting', sending', remote', lock'⟩ := wires
    exact ⟨fun i => places' i (places i), holds', stage', waiting'.trans waiting, sending'.trans sending, reception.trans gap,
      remote'.trans remote, lock'.trans lock⟩
  · have still := quiet (reception ▸ receiving)
    unfold State.lbusy at still ⊢
    rw [attached]
    cases ha : s.attached with
    | false => rfl
    | true =>
      simp only [ha, Bool.true_and, Bool.or_eq_false_iff, Bool.not_eq_false', List.isEmpty_iff, Option.isSome_eq_false_iff,
        Option.isNone_iff_eq_none] at still ⊢
      exact (settles still).1

/-- The law of the link interface of an ATTACHED part that receives nothing. -/
theorem State.linkLaw_of_attached {s : State} (attached : s.attached = true) (reception : ∀ b, s.reception ≠ .receiving b) : s.linkLaw :=
  ⟨fun off => absurd (attached.symm.trans off) (by decide), fun e => absurd e (reception _)⟩

/-! ### All laws but those of the addresses, the regions and the host port -/

/-- The laws that a command or a frame keeps on its own account. -/
structure State.BlockLaws (s : State) : Prop where
  laws : s.Laws [] []
  noticeList : s.noticeListLaw
  retiredNotice : s.retiredNoticeLaw
  link : s.linkLaw

theorem State.Inv.blockLaws {s : State} (h : s.Inv) : s.BlockLaws := ⟨h.laws, h.noticeList, h.retiredNotice, h.link⟩

theorem State.Evolves.attached {s t : State} (h : s.Evolves t) : t.attached = s.attached := congrArg (·.1) h.surroundings

theorem State.Evolves.reception {s t : State} (h : s.Evolves t) : t.reception = s.reception := congrArg (·.2.1) h.surroundings

theorem State.BlockLaws.evolve {s t : State} (h : s.BlockLaws) (laws : t.Laws [] []) (evolves : s.Evolves t) (settles : s.Settles t) :
    t.BlockLaws :=
  ⟨laws, evolves.noticeList h.noticeList, evolves.toRecordsEvolve.ages.retiredNoticeLaw h.retiredNotice,
    State.linkLaw_of_settles h.link evolves.attached evolves.reception settles⟩

/-- A change of what no law but that of the host port sees. -/
theorem State.BlockLaws.of_frame {s t : State} (h : s.BlockLaws) (same : s.SameBlocks t) (stations : t.stations = s.stations)
    (notices : t.noticeList = s.noticeList) (wires : t.wires = s.wires) (attached : t.attached = s.attached)
    (reception : t.reception = s.reception) (memory : t.memory = s.memory) : t.BlockLaws := by
  have flags := wires
  simp only [State.wires, Prod.mk.injEq] at flags
  obtain ⟨_, _, remote, lock⟩ := flags
  exact ⟨h.laws.retouch (.of_frame same stations remote lock memory), State.noticeListLaw_congr stations notices h.noticeList,
    (State.RecordsEvolve.of_frame stations notices).ages.retiredNoticeLaw h.retiredNotice,
    State.linkLaw_of_settles h.link attached reception (.of_sameBlocks same wires)⟩

/-! ### Commands that change one record in ways no law sees -/

/-- The change is one of `State.Retouches` and leaves the replies alone as well. -/
structure State.Touches (s t : State) : Prop extends State.Retouches s t where
  wires : t.wires = s.wires

theorem State.Touches.refl (s : State) : s.Touches s := ⟨.refl s, rfl⟩

theorem State.BlockLaws.touch {s t : State} (h : s.BlockLaws) (evolves : s.Evolves t) (touches : s.Touches t) : t.BlockLaws :=
  h.evolve (h.laws.retouch touches.toRetouches) evolves (.of_sameBlocks touches.toSameBlocks touches.wires)

theorem State.updateRecord_touches {s : State} {n : StationNo} {r : StationRecord} (hr : s.record n = some r)
    (f : StationRecord → StationRecord) (keeps : r.Keeps s.remoteEnable s.lockout (f r)) : s.Touches (s.updateRecord n f) :=
  ⟨s.updateRecord_retouches n f fun q hq => by
    obtain rfl := Option.some.inj (hr.symm.trans hq)
    exact keeps, rfl⟩

theorem adjustStationCommand_touches (p : ParamBlock) (s : State) : s.Touches (adjustStationCommand p s).state := by
  unfold adjustStationCommand
  split
  · exact .refl s
  · split
    · exact .refl s
    · exact withStation_cases (fun o => s.Touches o.state) (.refl s) (.refl s) fun r hr _ =>
        State.updateRecord_touches hr _ (r.keeps_options _ _)

theorem readStationCommand_touches (p : ParamBlock) (s : State) : s.Touches (readStationCommand p s).state := by
  unfold readStationCommand
  split
  · exact .refl s
  · exact withStation_cases (fun o => s.Touches o.state) (.refl s) (.refl s) fun _ _ _ =>
      ⟨.of_frame ⟨rfl, rfl, rfl, rfl, rfl⟩ rfl rfl rfl rfl, rfl⟩

theorem setStatusCommand_touches (p : ParamBlock) (s : State) : s.Touches (setStatusCommand p s).state := by
  unfold setStatusCommand
  split
  · exact .refl s
  · split
    · exact .refl s
    · exact withStation_cases (fun o => s.Touches o.state) (.refl s) (.refl s) fun r hr _ =>
        State.updateRecord_touches hr _ (r.keeps_status _)

theorem requestServiceCommand_touches (p : ParamBlock) (s : State) : s.Touches (requestServiceCommand p s).state := by
  unfold requestServiceCommand
  split
  · exact .refl s
  · next n _ =>
    split
    · exact .refl s
    · refine withStation_cases (fun o => s.Touches o.state) (.refl s) (.refl s) fun r hr ha => ?_
      have online : r.life = .online := of_decide_eq_true ha
      have asks : s.Touches (s.updateRecord n (fun r => { r with request := .asking, status := p[1].setWidth 7 })) :=
        State.updateRecord_touches hr _ ((r.keeps_request .asking fun off => absurd online off).trans (StationRecord.keeps_status _ _))
      split
      · exact .refl s
      · exact asks
      · exact asks

theorem withdrawRequestCommand_touches (p : ParamBlock) (s : State) : s.Touches (withdrawRequestCommand p s).state := by
  unfold withdrawRequestCommand
  split
  · exact .refl s
  · exact withStation_cases (fun o => s.Touches o.state) (.refl s) (.refl s) fun r hr _ =>
      State.updateRecord_touches hr _ (r.keeps_request .quiet fun _ => rfl)

theorem returnToLocalCommand_touches (p : ParamBlock) (s : State) : s.Touches (returnToLocalCommand p s).state := by
  unfold returnToLocalCommand
  split
  · exact .refl s
  · refine withStation_cases (fun o => s.Touches o.state) (.refl s) (.refl s) fun r hr ha => ?_
    have online : r.life = .online := of_decide_eq_true ha
    split
    · next e => exact State.updateRecord_touches hr _ (r.keeps_toLocal (by simp [online]) (.inl ⟨e, rfl⟩))
    · exact .refl s
    · exact .refl s
    · exact .refl s

/-- POST OUTBOUND of a length the region holds, with the end flag if it is 0 (R115). -/
theorem postOutboundCommand_touches (p : ParamBlock) (s : State) : s.Touches (postOutboundCommand p s).state := by
  unfold postOutboundCommand
  split
  · exact .refl s
  · dsimp only
    split
    · exact .refl s
    · split
      · exact .refl s
      · next ending =>
        rw [Classical.not_not] at ending
        refine withStation_cases (fun o => s.Touches o.state) (.refl s) (.refl s) fun r hr ha => ?_
        have online : r.life = .online := of_decide_eq_true ha
        split
        · exact .refl s
        · next talks =>
          split
          · exact .refl s
          · next fits =>
            split
            · exact .refl s
            · rw [Bool.not_eq_true', Bool.not_eq_false] at talks
              refine State.updateRecord_touches hr _ (r.keeps_outbound _ (fun sound => ?_) fun off => absurd online off)
              refine ⟨sound.outRegion_iff.mpr ⟨talks, by simp [online]⟩, Nat.le_of_not_lt fits, fun zero => ?_⟩
              rcases ending with e | ⟨_, e⟩
              · exact decide_eq_true e
              · omega

/-- CANCEL OUTBOUND: a SENDING outbound keeps its length and cursor in CLOSING (R116). -/
theorem cancelOutboundCommand_touches (p : ParamBlock) (s : State) : s.Touches (cancelOutboundCommand p s).state := by
  unfold cancelOutboundCommand
  split
  · exact .refl s
  · refine withStation_cases (fun o => s.Touches o.state) (.refl s) (.refl s) fun r hr ha => ?_
    have online : r.life = .online := of_decide_eq_true ha
    split
    · exact State.updateRecord_touches hr _ (StationRecord.keeps_outboundEmpty r)
    · next len e c ho =>
      refine State.updateRecord_touches hr _ (r.keeps_outbound _ (fun sound => ?_) fun off => absurd online off)
      have law := sound.outboundLaw
      unfold StationRecord.outboundLaw at law
      rw [ho] at law
      exact law
    · exact .refl s
    · exact .refl s

theorem readHoldCommand_touches (p : ParamBlock) (s : State) : s.Touches (readHoldCommand p s).state := by
  unfold readHoldCommand
  split
  · split <;> exact .refl s
  · split
    · exact .refl s
    · refine withStation_cases (fun o => s.Touches o.state) (.refl s) (.refl s) fun r _ _ => ?_
      split <;> exact .refl s

theorem forceTriggerCommand_touches (p : ParamBlock) (s : State) : s.Touches (forceTriggerCommand p s).state := by
  unfold forceTriggerCommand
  split
  · split
    · exact .refl s
    · exact ⟨.of_frame ⟨rfl, rfl, rfl, rfl, rfl⟩ rfl rfl rfl rfl, rfl⟩
  · exact .refl s

end Sys2Proof.Machine

/-! ## The commands of the host that reach further -/

namespace Sys2Proof.Machine

-- One theorem after the other: each thread of its own would take a stack.
set_option Elab.async false

open Sys2Proof.Claims

/-! ### What settles -/

theorem State.becomeRetired_settles (s : State) (n : StationNo) : s.Settles (s.becomeRetired n) :=
  .of_sameBlocks (s.becomeRetired_sameBlocks n) (by rw [State.becomeRetired_frame]; rfl)

theorem State.updateRecord_settles (s : State) (n : StationNo) (f : StationRecord → StationRecord) : s.Settles (s.updateRecord n f) :=
  .of_sameBlocks ⟨rfl, rfl, rfl, rfl, rfl⟩ rfl

/-- The cuts take a station out of what it is in and put none in (R22). -/
theorem State.cutStation_settles (s : State) (n : StationNo) : s.Settles (s.cutStation n) := by
  rintro ⟨holds, stage⟩
  rw [State.cutStation_eq]
  refine ⟨⟨?_, ?_⟩, fun i e => ?_, rfl⟩
  · simp [holds]
  · simp [stageWithout, stage]
  · refine ((State.place_congr (s := s.freePlaces n) rfl rfl i).trans (s.place_freePlaces n i)).trans ?_
    rw [e]; rfl

theorem retireGraceful_settles (s : State) (n : StationNo) : s.Settles (retireGraceful s n).state := by
  have quiet := s.updateRecord_settles n fun r => { r with request := .quiet, outbound := .empty }
  unfold Machine.retireGraceful
  dsimp only
  split
  · exact quiet.trans (State.updateRecord_settles _ n _)
  · exact quiet.trans (State.becomeRetired_settles _ n)

theorem retireImmediate_settles (s : State) (n : StationNo) (r : StationRecord) : s.Settles (retireImmediate s n r).state := by
  have cut (t : State) : t.Settles ((t.cutStation n).becomeRetired n) :=
    (t.cutStation_settles n).trans (State.becomeRetired_settles _ n)
  unfold Machine.retireImmediate
  dsimp only
  split
  · exact (s.updateRecord_settles n fun r => { r with request := .quiet, outbound := .empty }).trans (cut _)
  · exact cut s

theorem retireStation_settles (p : ParamBlock) (s : State) : s.Settles (retireStationCommand p s).state := by
  unfold retireStationCommand
  split
  · exact .refl s
  · next n _ =>
    split
    · exact withStation_cases (fun o => s.Settles o.state) (.refl s) (.refl s) fun r _ _ => retireGraceful_settles s n
    · split
      · exact withStation_cases (fun o => s.Settles o.state) (.refl s) (.refl s) fun r _ _ => retireImmediate_settles s n r
      · exact .refl s

/-- Without a stage nothing is delivered (R105). -/
theorem releaseInbound_settles (p : ParamBlock) (s : State) : s.Settles (releaseInboundCommand p s).state := by
  unfold releaseInboundCommand
  split
  · exact .refl s
  · next n _ =>
    refine withStation_cases (fun o => s.Settles o.state) (.refl s) (.refl s) fun r hr _ => ?_
    split
    · dsimp only
      split
      · exact s.updateRecord_settles n _
      · next g hg => exact fun idle => absurd (idle.2.symm.trans hg) (by simp)
    · exact .refl s

/-- Without a hold there is nothing to answer (R82). -/
theorem answerHold_settles (p : ParamBlock) (s : State) : s.Settles (answerHoldCommand p s).state := by
  unfold answerHoldCommand
  split
  · exact .refl s
  · next n _ =>
    split
    · exact .refl s
    · refine withStation_cases (fun o => s.Settles o.state) (.refl s) (.refl s) fun r hr _ => ?_
      split
      · exact .refl s
      · next h hh =>
        intro idle
        rw [State.pendingHold, idle.1] at hh
        cases hh

theorem defineStation_settles (p : ParamBlock) (s : State) : s.Settles (defineStationCommand p s).state := by
  rcases defineStation_cases p s with e | ⟨n, _, _, e⟩
  · rw [e]; exact .refl s
  · rw [e]; exact .of_sameBlocks ⟨rfl, rfl, rfl, rfl, rfl⟩ rfl

theorem takeNotice_sameBlocks (p : ParamBlock) (s : State) : s.SameBlocks (takeNoticeCommand p s).state ∧
    (takeNoticeCommand p s).state.wires = s.wires ∧ (takeNoticeCommand p s).state.memory = s.memory := by
  unfold takeNoticeCommand
  split
  · exact ⟨⟨rfl, rfl, rfl, rfl, rfl⟩, rfl, rfl⟩
  · split <;> exact ⟨⟨rfl, rfl, rfl, rfl, rfl⟩, rfl, rfl⟩

/-! ### The laws -/

theorem State.Laws.answerHold {s : State} (h : s.Laws [] []) (p : ParamBlock) : (answerHoldCommand p s).state.Laws [] [] := by
  unfold answerHoldCommand
  split
  · exact h
  · next n _ =>
    split
    · exact h
    · refine withStation_cases (fun o => o.state.Laws [] []) h h fun r hr _ => ?_
      split
      · exact h
      · next k hk =>
        split
        · exact h.answerWith (s.pendingHold_some n k hk).1 _
        · exact h

/-- A record whose set held RETIRED becomes FREE: RETIRED, its station has no obligation left (R24, R158). -/
theorem State.Laws.takeNotice {s : State} (h : s.Laws [] []) (retiredNotice : s.retiredNoticeLaw) (p : ParamBlock) :
    (takeNoticeCommand p s).state.Laws [] [] := by
  rcases takeNotice_cases p s with e | ⟨n, rest, takes⟩
  · rw [e]; exact h
  obtain ⟨same, wires, memory⟩ := takeNotice_sameBlocks p s
  simp only [State.wires, Prod.mk.injEq] at wires
  obtain ⟨_, _, remote, lock⟩ := wires
  have taken {r q : StationRecord} (hr : s.record n = some r) (hq : (s.record n).bind takenRecord = some q) :
      q = { r with notices := NoticeSet.none } := by
    rw [hr, Option.bind_some, takenRecord] at hq
    split at hq
    · cases hq
    · exact (Option.some.inj hq).symm
  refine h.replaceRecord (n := n) same remote lock memory takes.records (fun _ _ => id) (fun q hq => ?_) (fun r hr obliged => ?_)
    fun r q hr hq _ => by rw [taken hr hq]; exact id
  · obtain ⟨r, hr, _⟩ := Option.bind_eq_some_iff.mp hq
    obtain rfl := taken hr hq
    have keeps := r.keeps_notices (remote := s.remoteEnable) (lockout := s.lockout) NoticeSet.none
    obtain ⟨sound, fits⟩ := h.records n r hr
    exact ⟨keeps.sound sound, keeps.modes fits, fun ha => ⟨r, hr, ha⟩, fun hl => .inr (h.retiring n r (by simp) hr hl)⟩
  · obtain ⟨r', hr', live⟩ := h.liveAt_of_obliged obliged
    obtain rfl := Option.some.inj (hr.symm.trans hr')
    have unset : r.notices.retired = false := by
      rw [← Bool.not_eq_true, retiredNotice n r hr]; exact live
    exact ⟨{ r with notices := NoticeSet.none }, by rw [hr, Option.bind_some, takenRecord, unset]; rfl, id, rfl, rfl, rfl⟩

/-! ### ATTACH and DETACH -/

theorem State.BlockLaws.attach {s : State} (h : s.BlockLaws) (p : ParamBlock) : (attachCommand p s).state.BlockLaws := by
  unfold attachCommand
  split
  · exact h
  · exact ⟨h.laws.retouch (.of_frame ⟨rfl, rfl, rfl, rfl, rfl⟩ rfl rfl rfl rfl), State.noticeListLaw_congr rfl rfl h.noticeList,
      (State.RecordsEvolve.of_frame rfl rfl).ages.retiredNoticeLaw h.retiredNotice, State.linkLaw_of_attached rfl nofun⟩

/-- DETACH on one record (R42). -/
def StationRecord.detach (r : StationRecord) : StationRecord := if r.life = .online then { r with mode := .unlockedLocal } else r

theorem State.record_detachMode (n m : StationNo) (s : State) :
    (State.detachMode n s).record m = if m = n then (s.record n).map StationRecord.detach else s.record m :=
  s.record_updateRecord n m _

/-- With both flags clear every ONLINE station is LOCAL (R42, R138). -/
theorem State.Laws.detachModes {s t : State} (h : s.Laws [] []) (same : s.SameBlocks t) (memory : t.memory = s.memory)
    (records : ∀ m, t.record m = (s.record m).map StationRecord.detach) (remote : t.remoteEnable = false) (lock : t.lockout = false) :
    t.Laws [] [] := by
  refine h.changeModes same memory (by rw [lock]; exact nofun) records fun r _ => ?_
  have fits (q : StationRecord) (e : q.life = .online → q.mode = .unlockedLocal) : q.modeFits t.remoteEnable t.lockout := by
    rw [remote, lock]
    exact fun online => ⟨fun _ => e online, nofun, nofun⟩
  unfold StationRecord.detach
  split
  · next online => exact .inr ⟨.unlockedLocal, r.notices, rfl, online, fits _ fun _ => rfl⟩
  · next off => exact .inl ⟨rfl, fits r fun online => absurd online off⟩

theorem State.BlockLaws.detach {s : State} (h : s.BlockLaws) (p : ParamBlock) : (detachCommand p s).state.BlockLaws := by
  have evolves := detachCommand_evolves p s
  suffices both : (detachCommand p s).state.Laws [] [] ∧ (detachCommand p s).state.linkLaw from
    ⟨both.1, evolves.noticeList h.noticeList, evolves.ages.retiredNoticeLaw h.retiredNotice, both.2⟩
  clear evolves
  unfold detachCommand
  obtain ⟨laws, blank⟩ := h.laws.resetTransfers
  have same := State.forStations_sameBlocks (f := State.detachMode) (fun _ _ => ⟨rfl, rfl, rfl, rfl, rfl⟩) stationNumbers s.resetTransfers
  have memory := State.forStations_keeps State.memory State.detachMode (fun _ _ => rfl) stationNumbers s.resetTransfers
  have record := State.record_forAll State.record_detachMode s.resetTransfers
  generalize s.resetTransfers.forStations stationNumbers State.detachMode = t at same memory record
  have empty (i : Option LaneNo) : t.place i = none := (same.place i).trans (blank.places i)
  split
  · exact ⟨laws.detachModes ⟨same.talkSeat, same.lanes, same.holds, same.privateCopy, same.stage⟩ memory record rfl rfl,
      fun _ => ⟨fun i => (State.place_congr (s := t) rfl rfl i).trans (empty i), same.holds.trans blank.holds,
        same.stage.trans blank.stage, rfl, rfl, rfl, rfl, rfl⟩, nofun⟩
  · exact ⟨h.laws, h.link⟩

/-! ### Every command -/

theorem State.BlockLaws.retireStation {s : State} (h : s.BlockLaws) (p : ParamBlock) : (retireStationCommand p s).state.BlockLaws := by
  have laws := h.laws.retireStation p
  have settles := retireStation_settles p s
  rcases retireStation_cases p s with e | ⟨n, r, q, retires⟩
  · rw [e]; exact h
  · exact ⟨laws, retires.noticeList h.noticeList, retires.stateAges.retiredNoticeLaw h.retiredNotice,
      State.linkLaw_of_settles h.link (congrArg (·.1) retires.surroundings) (congrArg (·.2.1) retires.surroundings) settles⟩

theorem State.BlockLaws.takeNotice {s : State} (h : s.BlockLaws) (p : ParamBlock) : (takeNoticeCommand p s).state.BlockLaws := by
  have laws := h.laws.takeNotice h.retiredNotice p
  obtain ⟨same, wires, _⟩ := takeNotice_sameBlocks p s
  rcases takeNotice_cases p s with e | ⟨n, rest, takes⟩
  · rw [e]; exact h
  · exact ⟨laws, takes.noticeListLaw h.noticeList, takes.stateAges.retiredNoticeLaw h.retiredNotice,
      State.linkLaw_of_settles h.link (congrArg (·.1) takes.surroundings) (congrArg (·.2.1) takes.surroundings) (.of_sameBlocks same wires)⟩

/-- The record DEFINE STATION makes has an empty set and replaces a FREE one (R14). -/
theorem State.noticeListLaw_define {s : State} {n : StationNo} (law : s.noticeListLaw) (free : s.record n = none) (d : Definition) (b : Bool) :
    (s.setRecord n (some (newRecord d b))).noticeListLaw := by
  refine ⟨law.1, fun m => (law.2 m).trans ?_⟩
  rw [State.record_setRecord]
  by_cases e : m = n
  · subst e
    rw [free, if_pos rfl]
    constructor
    · rintro ⟨r, hr, _⟩; cases hr
    · rintro ⟨r, hr, hn⟩
      obtain rfl := Option.some.inj hr
      exact absurd rfl hn
  · rw [if_neg e]

theorem State.retiredNoticeLaw_define {s : State} {n : StationNo} (law : s.retiredNoticeLaw) (d : Definition) (b : Bool) :
    (s.setRecord n (some (newRecord d b))).retiredNoticeLaw := by
  intro m q hq
  rcases record_define b hq with ⟨_, rfl⟩ | ⟨_, hq⟩
  · exact ⟨nofun, nofun⟩
  · exact law m q hq

theorem State.BlockLaws.defineStation {s : State} (h : s.BlockLaws) (p : ParamBlock) : (defineStationCommand p s).state.BlockLaws := by
  have laws := h.laws.defineStation p
  have settles := defineStation_settles p s
  rcases defineStation_cases p s with e | ⟨n, _, admits, e⟩
  · rw [e]; exact h
  · rw [e] at laws settles ⊢
    exact ⟨laws, State.noticeListLaw_define h.noticeList admits.free _ _, State.retiredNoticeLaw_define h.retiredNotice _ _,
      State.linkLaw_of_settles h.link rfl rfl settles⟩

/-- The action of every command keeps these laws. -/
theorem State.BlockLaws.commandAction {s : State} (h : s.BlockLaws) (code : Byte) (p : ParamBlock) :
    (commandAction code p s).state.BlockLaws := by
  refine commandAction_cases (fun _ act => (act p s).state.BlockLaws)
    (h.attach p) (h.detach p) (h.defineStation p) (h.touch (adjustStationCommand_evolves p s) (adjustStationCommand_touches p s))
    (h.touch (readStationCommand_evolves p s) (readStationCommand_touches p s)) (h.retireStation p)
    (h.touch (setStatusCommand_evolves p s) (setStatusCommand_touches p s))
    (h.touch (requestServiceCommand_evolves p s) (requestServiceCommand_touches p s))
    (h.touch (withdrawRequestCommand_evolves p s) (withdrawRequestCommand_touches p s))
    (h.touch (returnToLocalCommand_evolves p s) (returnToLocalCommand_touches p s))
    (h.touch (postOutboundCommand_evolves p s) (postOutboundCommand_touches p s))
    (h.touch (cancelOutboundCommand_evolves p s) (cancelOutboundCommand_touches p s))
    (h.evolve (h.laws.releaseInbound p) (releaseInboundCommand_evolves p s) (releaseInbound_settles p s))
    (h.takeNotice p) (h.touch (readHoldCommand_evolves p s) (readHoldCommand_touches p s))
    (h.evolve (h.laws.answerHold p) (answerHoldCommand_evolves p s) (answerHold_settles p s))
    h (h.of_frame ⟨rfl, rfl, rfl, rfl, rfl⟩ rfl rfl rfl rfl rfl rfl)
    (h.touch (forceTriggerCommand_evolves p s) (forceTriggerCommand_touches p s)) (fun _ => h) code

end Sys2Proof.Machine

/-! ## Every row keeps every law -/

namespace Sys2Proof.Machine

-- One theorem after the other: each thread of its own would take a stack.
set_option Elab.async false

open Sys2Proof.Claims

/-! ### The host port -/

/-- All that the law of the host port sees. -/
def State.hostPort (s : State) : Bool × Engine × ResultCode × ParamBlock × Bool :=
  (s.attached, s.engine, s.result, s.params, s.nrstLow)

theorem State.hostLaw_congr {s t : State} (law : s.hostLaw) (same : t.hostPort = s.hostPort) : t.hostLaw := by
  simp only [State.hostPort, Prod.mk.injEq] at same
  obtain ⟨attached, engine, result, params, nrst⟩ := same
  simpa only [State.hostLaw, attached, engine, result, params, nrst] using law

theorem State.Evolves.hostPort {s t : State} (h : s.Evolves t) : t.hostPort = s.hostPort := by
  have same := h.surroundings
  simp only [State.surroundings, Prod.mk.injEq] at same
  obtain ⟨attached, _, engine, result, params, nrst⟩ := same
  simp only [State.hostPort, attached, engine, result, params, nrst]

/-- While no command is in hand and NRST is high the law of the host port says nothing. -/
theorem State.hostLaw_of_free {s : State} (free : ∀ c p, s.engine ≠ .busy c p) (nrst : s.nrstLow = false) : s.hostLaw :=
  ⟨fun c p e => absurd e (free c p), fun low => absurd (nrst.symm.trans low) (by decide)⟩

/-- The blocks' laws hold, and the host port's as well. -/
structure State.Sound (s : State) : Prop extends s.BlockLaws where
  host : s.hostLaw

theorem State.Inv.sound {s : State} (h : s.Inv) : s.Sound := ⟨h.blockLaws, h.host⟩

/-- A change of what no law sees. -/
theorem State.Sound.of_frame {s t : State} (h : s.Sound) (same : s.SameBlocks t) (stations : t.stations = s.stations)
    (notices : t.noticeList = s.noticeList) (wires : t.wires = s.wires) (reception : t.reception = s.reception)
    (memory : t.memory = s.memory) (port : t.hostPort = s.hostPort) : t.Sound :=
  ⟨h.toBlockLaws.of_frame same stations notices wires (congrArg (·.1) port) reception memory, State.hostLaw_congr h.host port⟩

/-- A change of the link interface alone. -/
theorem State.Sound.relink {s t : State} (h : s.Sound) (same : s.SameBlocks t) (stations : t.stations = s.stations)
    (notices : t.noticeList = s.noticeList) (remote : t.remoteEnable = s.remoteEnable) (lock : t.lockout = s.lockout)
    (memory : t.memory = s.memory) (port : t.hostPort = s.hostPort) (link : t.linkLaw) : t.Sound :=
  ⟨⟨h.laws.retouch (.of_frame same stations remote lock memory), State.noticeListLaw_congr stations notices h.noticeList,
    (State.RecordsEvolve.of_frame stations notices).ages.retiredNoticeLaw h.retiredNotice, link⟩, State.hostLaw_congr h.host port⟩

/-! ### Rows of commands -/

/-- No command changes the level of NRST. -/
theorem commandAction_nrstLow (code : Byte) (p : ParamBlock) (s : State) : (commandAction code p s).state.nrstLow = s.nrstLow := by
  have evolved {t : State} (h : s.Evolves t) : t.nrstLow = s.nrstLow := congrArg (·.2.2.2.2.2) h.surroundings
  refine commandAction_cases (fun _ act => (act p s).state.nrstLow = s.nrstLow)
    ?attach ?detach ?define (evolved (adjustStationCommand_evolves p s)) (evolved (readStationCommand_evolves p s)) ?retire
    (evolved (setStatusCommand_evolves p s)) (evolved (requestServiceCommand_evolves p s)) (evolved (withdrawRequestCommand_evolves p s))
    (evolved (returnToLocalCommand_evolves p s)) (evolved (postOutboundCommand_evolves p s)) (evolved (cancelOutboundCommand_evolves p s))
    (evolved (releaseInboundCommand_evolves p s)) ?take (evolved (readHoldCommand_evolves p s)) (evolved (answerHoldCommand_evolves p s))
    rfl rfl (evolved (forceTriggerCommand_evolves p s)) (fun _ => rfl) code
  case attach => unfold attachCommand; split <;> rfl
  case detach =>
    have reset := s.resetTransfers_evolves.trans (State.forStations_evolves State.detachMode_evolves stationNumbers _)
    unfold detachCommand
    generalize s.resetTransfers.forStations stationNumbers State.detachMode = t at reset
    split
    · show t.nrstLow = s.nrstLow
      exact evolved reset
    · rfl
  case define =>
    rcases defineStation_cases p s with e | ⟨n, _, _, e⟩
    · rw [e]
    · rw [e]; rfl
  case retire =>
    rcases retireStation_cases p s with e | ⟨_, _, _, retires⟩
    · rw [e]
    · exact congrArg (·.2.2.2.2.2) retires.surroundings
  case take =>
    rcases takeNotice_cases p s with e | ⟨_, _, takes⟩
    · rw [e]
    · exact congrArg (·.2.2.2.2.2) takes.surroundings

/-- A command completes. -/
theorem State.BlockLaws.completes {s : State} (h : s.BlockLaws) (nrst : s.nrstLow = false) (code : Byte) (p : ParamBlock) :
    (Machine.commandAction code p s).finish.Sound :=
  ⟨(h.commandAction code p).of_frame ⟨rfl, rfl, rfl, rfl, rfl⟩ rfl rfl rfl rfl rfl rfl,
    State.hostLaw_of_free nofun ((commandAction_nrstLow code p s).trans nrst)⟩

theorem State.Sound.commandOverrun {s : State} (h : s.Sound) : s.commandOverrun.Sound :=
  h.of_frame ⟨rfl, rfl, rfl, rfl, rfl⟩ rfl rfl rfl rfl rfl rfl

theorem State.Sound.issue {s : State} (h : s.Sound) (code : Byte) : (s.issue code (Machine.commandAction code)).Sound := by
  refine State.issue_cases State.Sound s code _ (fun _ => h) (fun _ _ => h.commandOverrun) (fun p nrst _ => h.completes nrst code p)
    fun nrst _ => ?_
  have accepted : (s.accept code).BlockLaws := h.toBlockLaws.of_frame ⟨rfl, rfl, rfl, rfl, rfl⟩ rfl rfl rfl rfl rfl rfl
  exact accepted.completes nrst code s.params

theorem State.Sound.issueRetire {s : State} (h : s.Sound) (mode : Byte) : (s.issueRetire mode retireStationCommand).Sound := by
  refine State.issueRetire_cases State.Sound s mode _ (fun _ => h) (fun _ _ => h.commandOverrun) (fun p nrst _ => h.completes nrst 0x13 p)
    fun nrst _ => ?_
  have accepted : (({ s with params := s.params.set 1 mode } : State).accept 0x13).BlockLaws :=
    h.toBlockLaws.of_frame ⟨rfl, rfl, rfl, rfl, rfl⟩ rfl rfl rfl rfl rfl rfl
  exact accepted.completes nrst 0x13 (s.params.set 1 mode)

theorem State.Sound.commandCompletion {s t : State} (h : s.Sound) (e : execCommandCompletion s = .next t) : t.Sound := by
  obtain rfl := Host.Outcome.next.inj e
  split
  · next code p busy =>
    -- A command is in hand only while NRST is high.
    have nrst : s.nrstLow = false := by
      rw [← Bool.not_eq_true]
      exact fun low => by rw [(h.host.2 low).2] at busy; cases busy
    exact h.completes nrst code p
  · exact h
  · exact h

/-! ### Rows of frames -/

theorem State.Sound.linkFault {s : State} (h : s.Sound) (k : FaultKind) : (s.linkFault k).Sound := by
  unfold State.linkFault
  split
  · exact h
  · exact h.of_frame ⟨rfl, rfl, rfl, rfl, rfl⟩ rfl rfl rfl rfl rfl rfl

theorem State.linkFault_link (s : State) (k : FaultKind) :
    (s.linkFault k).attached = s.attached ∧ (s.linkFault k).reception = s.reception := by
  unfold State.linkFault
  split <;> exact ⟨rfl, rfl⟩

theorem State.Sound.frameOver {s : State} (h : s.Sound) (on : s.attached = true) : s.frameOver.Sound :=
  h.relink ⟨rfl, rfl, rfl, rfl, rfl⟩ rfl rfl rfl rfl rfl rfl (State.linkLaw_of_attached on nofun)

theorem State.Sound.damagedRun {s : State} (h : s.Sound) (on : s.attached = true) : s.damagedRun.Sound :=
  (h.frameOver on).linkFault _

/-- A start bit marks the reception with the drive of LBUSY as it stands (R33). -/
theorem State.Sound.startBit {s : State} (h : s.Sound) (on : s.attached = true) : s.startBit.Sound :=
  h.relink ⟨rfl, rfl, rfl, rfl, rfl⟩ rfl rfl rfl rfl rfl rfl
    ⟨fun off => absurd (on.symm.trans off) (by decide), fun e => Reception.receiving.inj e⟩

/-- A frame that began outside the LBUSY drive ends outside it (R33). -/
theorem State.linkLaw.idle {s : State} (law : s.linkLaw) (on : s.attached = true) (began : s.reception = .receiving false) :
    s.Idle := by
  have still := law.2 began
  simpa [State.lbusy, on, State.Idle] using still

/-- A frame taken. -/
theorem State.Sound.takeFrame {s : State} {f : ControllerFrame} (h : s.Sound) (on : s.attached = true) (ready : s.reception = .ready)
    (fits : f.fits) (idle : f = .resetLink ∨ s.Idle) : (s.takeFrame f).Sound := by
  have evolves := s.takeFrame_evolves f
  have link : (s.takeFrame f).linkLaw :=
    State.linkLaw_of_attached (evolves.attached.trans on) fun b => by rw [evolves.reception, ready]; exact nofun
  exact ⟨⟨h.laws.takeFrame fits idle, evolves.noticeList h.noticeList, evolves.toRecordsEvolve.ages.retiredNoticeLaw h.retiredNotice, link⟩,
    State.hostLaw_congr h.host evolves.hostPort⟩

theorem State.Sound.judge {s : State} {f : Option ControllerFrame} {b : Bool} (h : s.Sound) (on : s.attached = true)
    (receiving : s.reception = .receiving b) (fits : ∀ g, f = some g → g.fits) : (s.judge f).Sound := by
  unfold State.judge
  dsimp only
  split
  · exact (h.frameOver on).linkFault _
  · next g =>
    split
    · exact (h.frameOver on).linkFault _
    · next taken =>
      refine (h.frameOver on).takeFrame on rfl (fits g rfl) ?_
      cases b with
      | false => exact .inr (h.link.idle on receiving)
      | true => exact .inl (by simpa [State.beganBusy, receiving] using taken)

theorem State.Sound.atRunEnd {s : State} (h : s.Sound) (f : State → State)
    (keeps : ∀ (t : State) b, t.Sound → t.attached = true → t.reception = .receiving b → (f t).Sound) : (s.atRunEnd f).Sound := by
  unfold State.atRunEnd
  split
  · next on =>
    split
    · exact h
    · exact keeps _ _ (h.startBit on) on rfl
    · next b receiving => exact keeps s b h on receiving
  · exact h

theorem dataFrame_fits {endMark : Bool} {body : List Byte} (g : ControllerFrame) (e : dataFrame endMark body = some g) : g.fits := by
  unfold dataFrame at e
  split at e
  · next fits => exact Option.some.inj e ▸ fits
  · cases e

theorem State.Sound.frameEnds {s : State} (h : s.Sound) {f : Option ControllerFrame} (fits : ∀ g, f = some g → g.fits) :
    (s.frameEnds f).Sound :=
  h.atRunEnd _ fun _ _ ht on receiving => ht.judge on receiving fits

theorem routeFrame_fits {talker : AddressBytes} {listeners : List AddressBytes} (g : ControllerFrame)
    (e : routeFrame talker listeners = some g) : g.fits := by
  unfold routeFrame at e
  split at e
  · split at e
    · exact Option.some.inj e ▸ trivial
    · cases e
  · cases e

theorem pollFrame_fits {a : AddressBytes} (g : ControllerFrame) (e : pollFrame a = some g) : g.fits := by
  unfold pollFrame at e
  split at e
  · exact Option.some.inj e ▸ trivial
  · cases e

theorem privateLinkFrame_fits {code : BitVec 6} {body : List Byte} (g : ControllerFrame) (e : privateLinkFrame code body = some g) :
    g.fits := by
  unfold privateLinkFrame at e
  split at e
  · exact Option.some.inj e ▸ trivial
  · cases e

theorem routeBody_fits {body : List Byte} (g : ControllerFrame) (e : routeBody body = some g) : g.fits := by
  unfold routeBody at e
  split at e
  · split at e
    · cases e
    · split at e
      · exact routeFrame_fits g e
      · cases e
  · cases e

/-- A frame by its type and body suits its kind (R30). -/
theorem parseFrame_fits {type : Byte} {body : List Byte} (g : ControllerFrame) (e : parseFrame type body = some g) : g.fits := by
  have test {c : Prop} [Decidable c] {x y : Option ControllerFrame} (hx : x = some g → g.fits) (hy : y = some g → g.fits)
      (e : (if c then x else y) = some g) : g.fits := by
    split at e
    · exact hx e
    · exact hy e
  have bare {f : ControllerFrame} (hf : f.fits) (e : bodiless body f = some g) : g.fits := by
    unfold bodiless at e
    split at e
    · exact Option.some.inj e ▸ hf
    · cases e
  have known {f : ControllerFrame} (hf : f.fits) (e : some f = some g) : g.fits := Option.some.inj e ▸ hf
  have refused (e : (none : Option ControllerFrame) = some g) : g.fits := by cases e
  unfold parseFrame at e
  refine (test (routeBody_fits g) <| test (dataFrame_fits g) <| test (dataFrame_fits g) <| test (bare (f := .fetch) trivial) <|
    test (fun e => ?poll) <| test (fun e => ?clear) <| test (bare (f := .trigger) trivial) <| test (fun e => ?remote) <|
    test (bare (f := .lockout) trivial) <| test (bare (f := .localFrame) trivial) <| test (bare (f := .resetLink) trivial) <|
    test (privateLinkFrame_fits g) refused) e
  case poll =>
    split at e
    · exact pollFrame_fits g e
    · cases e
  case clear =>
    split at e
    · exact test (known (f := .clear .all) trivial) (test (known (f := .clear .listeners) trivial) refused) e
    · cases e
  case remote =>
    split at e
    · exact test (known (f := .remote false) trivial) (test (known (f := .remote true) trivial) refused) e
    · cases e

theorem State.Sound.judgeBytes {s : State} {b : Bool} (h : s.Sound) (on : s.attached = true) (receiving : s.reception = .receiving b)
    (type : Byte) (body : List Byte) (check : Byte) : (s.judgeBytes type body check).Sound := by
  unfold State.judgeBytes
  split
  · exact h.damagedRun on
  · split
    · exact (h.frameOver on).linkFault _
    · split
      · exact h.frameOver on
      · exact h.judge on receiving parseFrame_fits

theorem State.judge_attached (s : State) (f : Option ControllerFrame) : (s.judge f).attached = s.attached := by
  unfold State.judge
  dsimp only
  split
  · exact (s.frameOver.linkFault_link _).1
  · split
    · exact (s.frameOver.linkFault_link _).1
    · exact (s.frameOver.takeFrame_evolves _).attached

theorem State.judgeBytes_attached (s : State) (type : Byte) (body : List Byte) (check : Byte) :
    (s.judgeBytes type body check).attached = s.attached := by
  unfold State.judgeBytes
  split
  · exact (s.frameOver.linkFault_link _).1
  · split
    · exact (s.frameOver.linkFault_link _).1
    · split
      · rfl
      · exact s.judge_attached _

theorem State.Sound.runEnds {s : State} (h : s.Sound) (run : LinkRun) : (s.runEnds run).Sound := by
  cases run with
  | afterIdle chars =>
    unfold State.runEnds
    refine h.atRunEnd _ fun t b ht on receiving => ?_
    split
    · exact ht.damagedRun on
    · next type body check after _ =>
      have on' := (t.judgeBytes_attached type body check).trans on
      have judged := ht.judgeBytes on receiving type body check
      unfold State.trailingRun
      split
      · exact judged
      · exact (judged.startBit on').damagedRun on'
  | afterCheck chars => exact h.atRunEnd _ fun _ _ ht on _ => ht.damagedRun on

theorem State.Sound.responderFrame {s : State} (h : s.Sound) (body : List Byte) :
    (s.atRunEnd (fun t => if body.length ≤ 40 then t.frameOver else t.damagedRun)).Sound := by
  refine h.atRunEnd _ fun t b ht on _ => ?_
  split
  · exact ht.frameOver on
  · exact ht.damagedRun on

theorem State.Sound.frameStart {s t : State} (h : s.Sound) (e : execFrameStart s = .next t) : t.Sound := by
  obtain rfl := Host.Outcome.next.inj e
  split
  · next on =>
    split
    · exact h
    · exact h.startBit on
    · exact (h.damagedRun on).startBit ((s.frameOver.linkFault_link _).1.trans on)
  · exact h

theorem State.Sound.idleGap {s t : State} (h : s.Sound) (e : execIdleGap s = .next t) : t.Sound := by
  obtain rfl := Host.Outcome.next.inj e
  split
  · next on =>
    split
    · exact h.frameOver on
    · exact h
    · exact h.damagedRun on
  · exact h

/-- A reply waits only while the part is ATTACHED (R40, R42). -/
theorem State.Sound.sendReply {s t : State} (h : s.Sound) (e : execSendReply s = .next t) : t.Sound := by
  obtain rfl := Host.Outcome.next.inj e
  split
  · next f waiting _ =>
    refine h.relink ⟨rfl, rfl, rfl, rfl, rfl⟩ rfl rfl rfl rfl rfl rfl ⟨fun off => ?_, h.link.2⟩
    obtain ⟨_, _, _, none, _⟩ := h.link.1 off
    rw [waiting] at none; cases none
  · exact h

theorem State.Sound.replySent {s : State} (h : s.Sound) : State.Sound { s with replySending := none } := by
  refine h.relink ⟨rfl, rfl, rfl, rfl, rfl⟩ rfl rfl rfl rfl rfl rfl ⟨fun off => ?_, h.link.2⟩
  obtain ⟨places, holds, stage, waiting, _, rest⟩ := h.link.1 off
  exact ⟨places, holds, stage, waiting, rfl, rest⟩

/-! ### Rows of time -/

theorem State.expireHolds_settles (s : State) : s.Settles s.expireHolds := by
  intro idle
  have still : s.expireHolds = s := by rw [State.expireHolds, idle.1]; rfl
  rw [still]
  exact State.Settles.refl s idle

theorem State.expireStage_settles (s : State) : s.Settles s.expireStage := by
  intro idle
  have still : s.expireStage = s := by rw [State.expireStage, idle.2]
  rw [still]
  exact State.Settles.refl s idle

theorem State.tick_settles (s : State) : s.Settles s.tick := fun ⟨holds, stage⟩ =>
  ⟨⟨by simp [State.tick, holds], by simp [State.tick, stage]⟩, fun _ e => e, rfl⟩

theorem State.Sound.evolve {s t : State} (h : s.Sound) (laws : t.Laws [] []) (evolves : s.Evolves t) (settles : s.Settles t) : t.Sound :=
  ⟨h.toBlockLaws.evolve laws evolves settles, State.hostLaw_congr h.host evolves.hostPort⟩

theorem State.Sound.millisecond {s : State} (h : s.Sound) : s.expireHolds.expireStage.tick.Sound :=
  h.evolve h.laws.millisecond s.millisecond_evolves
    (s.expireHolds_settles.trans (s.expireHolds.expireStage_settles.trans s.expireHolds.expireStage.tick_settles))

end Sys2Proof.Machine

/-! ## Rows of registers, the resets, and every step -/

namespace Sys2Proof.Machine

-- One theorem after the other: each thread of its own would take a stack.
set_option Elab.async false

open Sys2Proof.Claims

/-! ### Rows of registers -/

theorem State.Sound.readAccess {s : State} (h : s.Sound) (reg : BitVec 4) {f : State → State} (hf : (f s).Sound) :
    (s.readAccess reg f).Sound := by
  unfold State.readAccess
  split
  · exact h.of_frame ⟨rfl, rfl, rfl, rfl, rfl⟩ rfl rfl rfl rfl rfl rfl
  · exact hf.of_frame ⟨rfl, rfl, rfl, rfl, rfl⟩ rfl rfl rfl rfl rfl rfl

theorem State.Sound.access {s : State} (h : s.Sound) {f : State → State} (hf : s.nrstLow = false → (f s).Sound) :
    (s.access f).Sound := by
  unfold State.access
  split
  · exact h
  · next nrst => exact hf (by simpa using nrst)

/-- A change of the host port alone, while no command is in hand after it and NRST is high. -/
theorem State.Sound.rehost {s t : State} (h : s.Sound) (same : s.SameBlocks t) (stations : t.stations = s.stations)
    (notices : t.noticeList = s.noticeList) (wires : t.wires = s.wires) (attached : t.attached = s.attached)
    (reception : t.reception = s.reception) (memory : t.memory = s.memory) (host : t.hostLaw) : t.Sound :=
  ⟨h.toBlockLaws.of_frame same stations notices wires attached reception memory, host⟩

theorem State.not_busy {s : State} (h : ¬ s.busyEngine = true) (c : Byte) (p : ParamBlock) : s.engine ≠ .busy c p :=
  fun e => h (by rw [State.busyEngine, e])

theorem State.Sound.readResult {s : State} (h : s.Sound) : (if s.engine = .done then { s with engine := .idle } else s).Sound := by
  split
  · exact h.rehost ⟨rfl, rfl, rfl, rfl, rfl⟩ rfl rfl rfl rfl rfl rfl ⟨nofun, fun low => ⟨(h.host.2 low).1, rfl⟩⟩
  · exact h

theorem State.Sound.writeParamIndex {s : State} (h : s.Sound) (v : Byte) : (s.writeParamIndex v).Sound := by
  unfold State.writeParamIndex
  split
  · exact h.commandOverrun
  · exact h.of_frame ⟨rfl, rfl, rfl, rfl, rfl⟩ rfl rfl rfl rfl rfl rfl

/-- The parameter block is written only while no command is in hand (R170). -/
theorem State.Sound.writeParamData {s : State} (h : s.Sound) (v : Byte) : (s.writeParamData v).Sound := by
  unfold State.writeParamData
  split
  · exact h.commandOverrun
  · next free =>
    exact h.rehost ⟨rfl, rfl, rfl, rfl, rfl⟩ rfl rfl rfl rfl rfl rfl ⟨fun c p e => absurd e (State.not_busy free c p), h.host.2⟩

/-- A command accepted has the parameter block as its snapshot, and RESULT reads 0x00 (R167). -/
theorem State.Sound.writeCommand {s : State} (h : s.Sound) (nrst : s.nrstLow = false) (v : Byte) : (s.writeCommand v).Sound := by
  unfold State.writeCommand
  split
  · exact h.commandOverrun
  · refine h.rehost ⟨rfl, rfl, rfl, rfl, rfl⟩ rfl rfl rfl rfl rfl rfl ⟨fun c p e => ?_, fun low => absurd (nrst.symm.trans low) (by decide)⟩
    obtain ⟨rfl, rfl⟩ := Engine.busy.inj e
    exact ⟨rfl, rfl⟩

theorem State.Sound.accessRefused {s : State} (h : s.Sound) (a : BitVec 13) : (s.accessRefused a).Sound := by
  unfold State.accessRefused
  split
  · exact h
  · exact h.of_frame ⟨rfl, rfl, rfl, rfl, rfl⟩ rfl rfl rfl rfl rfl rfl

theorem State.Sound.advancePointer {s : State} (h : s.Sound) : s.advancePointer.Sound :=
  h.of_frame ⟨rfl, rfl, rfl, rfl, rfl⟩ rfl rfl rfl rfl rfl rfl

theorem State.Sound.passDataRead {s : State} (h : s.Sound) : s.passDataRead.Sound := by
  unfold State.passDataRead
  split
  · exact (h.accessRefused _).advancePointer
  · exact h.advancePointer

/-- A store of the host keeps the canonical form of memory: the data pointer has 13 bits (R173). -/
theorem State.Sound.writeMemory {s : State} (h : s.Sound) (v : Byte) :
    State.Sound { s with memory := Memory.write s.memory s.dataPointer.toNat v } :=
  ⟨⟨h.laws.retouch ⟨⟨rfl, rfl, rfl, rfl, rfl⟩, fun _ => relKeeps_refl _, rfl, rfl, Memory.wf_write _ _ v s.dataPointer.isLt⟩,
    h.noticeList, h.retiredNotice, h.link⟩, h.host⟩

theorem State.Sound.writeData {s : State} (h : s.Sound) (v : Byte) : (s.writeData v).Sound := by
  unfold State.writeData
  split
  · exact (h.accessRefused _).advancePointer
  · exact (h.writeMemory v).advancePointer

theorem State.Sound.writeIrqEnable {s : State} (h : s.Sound) (v : Byte) : (s.writeIrqEnable v).Sound :=
  h.of_frame ⟨rfl, rfl, rfl, rfl, rfl⟩ rfl rfl rfl rfl rfl rfl

theorem State.Sound.writeDeviceNotice {s : State} (h : s.Sound) (v : Byte) : (s.writeDeviceNotice v).Sound :=
  h.of_frame ⟨rfl, rfl, rfl, rfl, rfl⟩ rfl rfl rfl rfl rfl rfl

theorem State.Sound.writeRegister {s : State} (h : s.Sound) (nrst : s.nrstLow = false) (reg : BitVec 4) (v : Byte) :
    (s.writeRegister reg v).Sound := by
  unfold State.writeRegister
  split
  · exact h.writeCommand nrst v
  · exact h.writeParamIndex v
  · exact h.writeParamData v
  · exact h.of_frame ⟨rfl, rfl, rfl, rfl, rfl⟩ rfl rfl rfl rfl rfl rfl
  · exact h.of_frame ⟨rfl, rfl, rfl, rfl, rfl⟩ rfl rfl rfl rfl rfl rfl
  · exact h.writeData v
  · exact h.writeIrqEnable v
  · exact h.writeDeviceNotice v
  · exact h

/-! ### The resets -/

/-- A part without records that is DETACHED and at rest. -/
structure State.AtReset (s : State) : Prop where
  records : ∀ n, s.record n = none
  noticeList : s.noticeList = []
  places : ∀ i, s.place i = none
  holds : s.holds = []
  privateCopy : s.privateCopy = none
  stage : s.stage = none
  wires : s.wires = (none, none, false, false)
  attached : s.attached = false
  reception : s.reception = .awaitingGap
  engine : s.engine = .idle
  memory : Memory.wf s.memory = true

/-- The reset values of every block, of which a hardware reset keeps all but the memory and the level of NRST. -/
theorem State.AtReset.of_fields {s : State} (stations : s.stations = State.reset.stations) (noticeList : s.noticeList = [])
    (talkSeat : s.talkSeat = none) (lanes : s.lanes = State.reset.lanes) (holds : s.holds = []) (privateCopy : s.privateCopy = none)
    (stage : s.stage = none) (wires : s.wires = (none, none, false, false)) (attached : s.attached = false)
    (reception : s.reception = .awaitingGap) (engine : s.engine = .idle) (memory : Memory.wf s.memory = true) : s.AtReset where
  records n := by rw [State.record, stations]; simp [State.reset, Vector.get]
  noticeList := noticeList
  places
    | none => talkSeat
    | some l => by
      show s.lanes.get l = none
      rw [lanes]; simp [State.reset, Vector.get]
  holds := holds
  privateCopy := privateCopy
  stage := stage
  wires := wires
  attached := attached
  reception := reception
  engine := engine
  memory := memory

theorem State.AtReset.inv {s : State} (h : s.AtReset) : s.Inv := by
  have free {P : Prop} {n : StationNo} {r : StationRecord} (hr : s.record n = some r) : P := by
    rw [h.records] at hr; cases hr
  have wires := h.wires
  simp only [State.wires, Prod.mk.injEq] at wires
  obtain ⟨waiting, sending, remote, lock⟩ := wires
  have laws : s.Laws [] [] :=
    { flags := by rw [lock]; exact nofun
      records := fun n r hr => free hr
      onePlace := fun i j p q hp => by rw [h.places] at hp; cases hp
      occupants := fun i p hp => by rw [h.places] at hp; cases hp
      accepted := fun n r hr => free hr
      oneHold := by rw [h.holds]; exact List.nodup_nil
      holders := fun k hk => by rw [h.holds] at hk; cases hk
      ports := fun n => by simp [h.places, h.holds]
      timers := fun k hk => by rw [h.holds] at hk; cases hk
      copy := by simp [h.privateCopy, h.holds]
      stage := fun g hg => by rw [h.stage] at hg; cases hg
      retiring := fun n r _ hr => free hr
      memory := h.memory }
  refine laws.inv ⟨by rw [h.noticeList]; exact List.nodup_nil, fun n => ?_⟩ (fun n r hr => free hr) (fun n m r q a hn => free hn)
    ⟨fun n r i g hr => free hr, fun n m r q i j g k a hn => free hn⟩ ⟨fun _ => ?_, fun e => ?_⟩ ⟨fun c p e => ?_, fun _ => ⟨h.attached, h.engine⟩⟩
  · simp [h.noticeList, h.records]
  · exact ⟨h.places, h.holds, h.stage, waiting, sending, h.reception, remote, lock⟩
  · rw [h.reception] at e; cases e
  · rw [h.engine] at e; cases e

/-- Settles O3: nothing is there for a law to speak of. -/
theorem resetMeetsTheLaws : Obligations.ResetMeetsTheLaws :=
  State.AtReset.inv (.of_fields rfl rfl rfl rfl rfl rfl rfl rfl rfl rfl rfl State.reset_memory_wf)

/-- Memory keeps its canonical form through NRST and is emptied at power-on (R177). -/
theorem State.hardwareReset_inv {s : State} (memory : s.memoryLaw) (powerOn : Bool) : (s.hardwareReset powerOn).Inv :=
  State.AtReset.inv (.of_fields rfl rfl rfl rfl rfl rfl rfl rfl rfl rfl rfl (by
    cases powerOn
    · exact memory
    · exact State.reset_memory_wf))

/-! ### Every row -/

/-- Every row but a hardware reset keeps the laws of the blocks and of the host port. -/
theorem exec_keeps_sound (c : Instr) (s t : State) (h : s.Sound) (e : exec c s = .next t) (hreset : ∀ p, c ≠ .hardwareReset p) : t.Sound := by
  cases c with
  | hardwareReset p => exact absurd rfl (hreset p)
  | commandCompletion => exact h.commandCompletion e
  | attach => exact Host.Outcome.next.inj e ▸ h.issue 0x01
  | detach => exact Host.Outcome.next.inj e ▸ h.issue 0x02
  | defineStation => exact Host.Outcome.next.inj e ▸ h.issue 0x10
  | adjustStation => exact Host.Outcome.next.inj e ▸ h.issue 0x11
  | readStation => exact Host.Outcome.next.inj e ▸ h.issue 0x12
  | retireStationGraceful => exact Host.Outcome.next.inj e ▸ h.issueRetire 0
  | retireStationImmediate => exact Host.Outcome.next.inj e ▸ h.issueRetire 1
  | setStatus => exact Host.Outcome.next.inj e ▸ h.issue 0x20
  | requestService => exact Host.Outcome.next.inj e ▸ h.issue 0x21
  | withdrawRequest => exact Host.Outcome.next.inj e ▸ h.issue 0x22
  | returnToLocal => exact Host.Outcome.next.inj e ▸ h.issue 0x28
  | postOutbound => exact Host.Outcome.next.inj e ▸ h.issue 0x30
  | cancelOutbound => exact Host.Outcome.next.inj e ▸ h.issue 0x31
  | releaseInbound => exact Host.Outcome.next.inj e ▸ h.issue 0x38
  | takeNotice => exact Host.Outcome.next.inj e ▸ h.issue 0x40
  | readHold => exact Host.Outcome.next.inj e ▸ h.issue 0x48
  | answerHold => exact Host.Outcome.next.inj e ▸ h.issue 0x49
  | readRoute => exact Host.Outcome.next.inj e ▸ h.issue 0x50
  | setHoldLimit => exact Host.Outcome.next.inj e ▸ h.issue 0x58
  | forceTrigger => exact Host.Outcome.next.inj e ▸ h.issue 0x60
  | unknownCommand code => exact Host.Outcome.next.inj e ▸ h.issue code
  | route talker listeners => exact Host.Outcome.next.inj e ▸ h.frameEnds routeFrame_fits
  | data endMark body => exact Host.Outcome.next.inj e ▸ h.frameEnds dataFrame_fits
  | fetch => exact Host.Outcome.next.inj e ▸ h.frameEnds fun _ hg => Option.some.inj hg ▸ trivial
  | poll a => exact Host.Outcome.next.inj e ▸ h.frameEnds pollFrame_fits
  | clear scope => exact Host.Outcome.next.inj e ▸ h.frameEnds fun _ hg => Option.some.inj hg ▸ trivial
  | trigger => exact Host.Outcome.next.inj e ▸ h.frameEnds fun _ hg => Option.some.inj hg ▸ trivial
  | remote on => exact Host.Outcome.next.inj e ▸ h.frameEnds fun _ hg => Option.some.inj hg ▸ trivial
  | lockout => exact Host.Outcome.next.inj e ▸ h.frameEnds fun _ hg => Option.some.inj hg ▸ trivial
  | localFrame => exact Host.Outcome.next.inj e ▸ h.frameEnds fun _ hg => Option.some.inj hg ▸ trivial
  | resetLink => exact Host.Outcome.next.inj e ▸ h.frameEnds fun _ hg => Option.some.inj hg ▸ trivial
  | privateFrame code body => exact Host.Outcome.next.inj e ▸ h.frameEnds privateLinkFrame_fits
  | responderFrame isStatus body => exact Host.Outcome.next.inj e ▸ h.responderFrame body
  | frameDiscarded run => exact Host.Outcome.next.inj e ▸ h.runEnds run
  | frameStart => exact h.frameStart e
  | idleGap => exact h.idleGap e
  | sendReply => exact h.sendReply e
  | replySent => exact Host.Outcome.next.inj e ▸ h.replySent
  | holdExpiry => exact Host.Outcome.next.inj e ▸ h.evolve h.laws.expireHolds s.expireHolds_evolves s.expireHolds_settles
  | stageExpiry => exact Host.Outcome.next.inj e ▸ h.evolve h.laws.expireStage s.expireStage_evolves s.expireStage_settles
  | millisecondStep => exact Host.Outcome.next.inj e ▸ h.millisecond
  | readResult => exact Host.Outcome.next.inj e ▸ h.readAccess 0x1 h.readResult
  | paramDataRead =>
    exact Host.Outcome.next.inj e ▸ h.readAccess 0x3 (h.of_frame ⟨rfl, rfl, rfl, rfl, rfl⟩ rfl rfl rfl rfl rfl rfl)
  | dataRead => exact Host.Outcome.next.inj e ▸ h.readAccess 0x6 h.passDataRead
  | paramIndexWrite v => exact Host.Outcome.next.inj e ▸ h.access fun _ => h.writeParamIndex v
  | paramDataWrite v => exact Host.Outcome.next.inj e ▸ h.access fun _ => h.writeParamData v
  | dataWrite v => exact Host.Outcome.next.inj e ▸ h.access fun _ => h.writeData v
  | irqEnableWrite v => exact Host.Outcome.next.inj e ▸ h.access fun _ => h.writeIrqEnable v
  | deviceNoticeWrite v => exact Host.Outcome.next.inj e ▸ h.access fun _ => h.writeDeviceNotice v
  | registerWrite reg v => exact Host.Outcome.next.inj e ▸ h.access fun nrst => h.writeRegister nrst reg v
  | nrstRelease =>
    exact Host.Outcome.next.inj e ▸ h.rehost ⟨rfl, rfl, rfl, rfl, rfl⟩ rfl rfl rfl rfl rfl rfl ⟨h.host.1, nofun⟩

/-- Every row keeps every law. -/
theorem exec_keeps_inv (c : Instr) (s t : State) (h : s.Inv) (e : exec c s = .next t) : t.Inv := by
  by_cases hreset : ∃ p, c = .hardwareReset p
  · obtain ⟨p, rfl⟩ := hreset
    obtain rfl := Host.Outcome.next.inj e
    exact State.hardwareReset_inv h.memory p
  · have sound := exec_keeps_sound c s t h.sound e fun p hp => hreset ⟨p, hp⟩
    exact sound.laws.inv sound.noticeList sound.retiredNotice (exec_keeps_addressLaw c s t h.addresses e)
      (exec_keeps_regionLaw c s t h.regions e) sound.link sound.host

/-- The queue is out of reach of the laws. -/
theorem State.Inv.pending {s : State} (rest : List Instr) (h : s.Inv) : State.Inv { s with pending := rest } :=
  ⟨h.noticeList, h.retiredNotice, h.modes, h.addresses, h.regions, h.records, h.route, h.holds, h.stage, h.retiring, h.link, h.host, h.memory⟩

/-- Settles O4: each law is kept by every row, and a hardware reset meets all of them anew. -/
theorem stepKeepsTheLaws : Obligations.StepKeepsTheLaws :=
  step_keeps State.Inv (fun _ rest h => h.pending rest) exec_keeps_inv

end Sys2Proof.Machine

/-! ## The table of life states (R6) -/

namespace Sys2Proof.Machine

-- One theorem after the other: each thread of its own would take a stack.
set_option Elab.async false

open Sys2Proof.Claims

/-- What the table of R6 allows of one record, with the happening it names for each change. The completion of a command has the given code. -/
structure State.LifeStep (s t : State) (code : Option Byte) (n : StationNo) : Prop where
  defined : s.record n = none → ∀ r, t.record n = some r → r.life = .online ∧ code = some 0x10 ∧ t.result = .ok
  left : ∀ r, s.record n = some r → r.life = .online → ∃ q, t.record n = some q ∧
    (q.life ≠ .online → code = some 0x13 ∧ t.result = (if q.life = .retiring then .pending else .ok)) ∧
    (q.life = .retiring → Obliged t n)
  retiring : ∀ r, s.record n = some r → r.life = .retiring → ∃ q, t.record n = some q ∧ q.life ≠ .online
  retired : ∀ r, s.record n = some r → r.life = .retired → (∀ q, t.record n = some q → q.life = .retired) ∧
    (t.record n = none → code = some 0x40 ∧ s.noticeList.head? = some n)

/-- A record left alone. -/
theorem State.LifeStep.of_same {s t : State} {n : StationNo} (code : Option Byte) (same : t.record n = s.record n) : s.LifeStep t code n where
  defined free r hr := by rw [same, free] at hr; cases hr
  left r hr online := ⟨r, same.trans hr, fun h => absurd online h, fun h => by rw [online] at h; cases h⟩
  retiring r hr hl := ⟨r, same.trans hr, by simp [hl]⟩
  retired r hr hl := ⟨fun q hq => Option.some.inj (hr.symm.trans (same.symm.trans hq)) ▸ hl, fun none => by rw [same, hr] at none; cases none⟩

/-- A record that evolves stays ONLINE if it is, and never becomes FREE. -/
theorem State.RecordsEvolve.lifeStep {s t : State} (h : s.RecordsEvolve t) (code : Option Byte) (n : StationNo) : s.LifeStep t code n where
  defined free r hr := by rw [h.free free] at hr; cases hr
  left r hr online := by
    obtain ⟨q, hq, evolves⟩ := h.outcome hr
    have stays := evolves.staysOnline online
    exact ⟨q, hq, fun e => absurd stays e, fun e => by rw [stays] at e; cases e⟩
  retiring r hr hl := by
    obtain ⟨q, hq, evolves⟩ := h.outcome hr
    exact ⟨q, hq, fun online => by rw [evolves.online online] at hl; cases hl⟩
  retired r hr hl := by
    obtain ⟨q, hq, evolves⟩ := h.outcome hr
    refine ⟨fun q' hq' => ?_, fun none => by rw [hq] at none; cases none⟩
    obtain rfl := Option.some.inj (hq.symm.trans hq')
    exact Classical.not_not.mp fun live => evolves.live live hl

/-- DEFINE STATION makes a FREE record ONLINE (R14). -/
theorem State.LifeStep.define {s u : State} (same : u.stations = s.stations) (p : ParamBlock) (n : StationNo) :
    s.LifeStep (defineStationCommand p u).finish (some 0x10) n := by
  have record := State.record_congr same
  rcases defineStation_cases p u with e | ⟨m, _, admits, e⟩
  · exact .of_same _ ((State.record_congr (congrArg State.stations e) n).trans (record n))
  · rw [e]
    have changed : (CommandOutcome.finish ⟨u.setRecord m (some (newRecord (definitionOf p) u.lockout)), .ok, stationByte m, []⟩).record n =
        if n = m then some (newRecord (definitionOf p) u.lockout) else u.record n := u.record_setRecord m n _
    by_cases hn : n = m
    · subst hn
      rw [if_pos rfl] at changed
      have free : s.record n = none := (record n).symm.trans admits.free
      have taken {r : StationRecord} {P : Prop} (hr : s.record n = some r) : P := by rw [free] at hr; cases hr
      exact ⟨fun _ r hr => ⟨(Option.some.inj (changed.symm.trans hr)) ▸ rfl, rfl, rfl⟩, fun _ hr => taken hr, fun _ hr => taken hr,
        fun _ hr => taken hr⟩
    · rw [if_neg hn] at changed
      exact .of_same _ (changed.trans (record n))

theorem CommandOutcome.finish_obliged (o : CommandOutcome) (n : StationNo) : Obliged o.finish n ↔ Obliged o.state n :=
  State.SameBlocks.obliged ⟨rfl, rfl, rfl, rfl, rfl⟩ n

/-- RETIRE STATION takes a station out of ONLINE, or out of RETIRING (R19, R22). -/
theorem State.LifeStep.retire {s u : State} (same : u.stations = s.stations) (p : ParamBlock) (n : StationNo) :
    s.LifeStep (retireStationCommand p u).finish (some 0x13) n := by
  have record := State.record_congr same
  rcases retireStation_cases p u with e | ⟨m, r, q, retires⟩
  · exact .of_same _ ((State.record_congr (congrArg State.stations e) n).trans (record n))
  · have changed : (retireStationCommand p u).finish.record n = if n = m then some q else u.record n := retires.records n
    by_cases hn : n = m
    · subst hn
      rw [if_pos rfl] at changed
      have found : s.record n = some r := (record n).symm.trans retires.found
      have was {r' : StationRecord} (hr : s.record n = some r') : r' = r := Option.some.inj (hr.symm.trans found)
      have offline : q.life ≠ .online := by
        rcases retires.outcome with ⟨e, _⟩ | ⟨e, _⟩ <;> simp [e]
      refine ⟨fun free => ?_, fun r' hr _ => ⟨q, changed, fun _ => ⟨rfl, ?_⟩, fun hl => ?_⟩, fun r' hr _ => ⟨q, changed, offline⟩,
        fun r' hr hl => absurd (was hr ▸ hl) retires.live⟩
      · rw [found] at free; cases free
      · rcases retires.outcome with ⟨hl, result, _⟩ | ⟨hl, result⟩
        · rw [hl, if_pos rfl]; exact result
        · rw [hl, if_neg (by decide)]; exact result
      · rcases retires.outcome with ⟨_, _, obliged⟩ | ⟨hl', _⟩
        · exact (CommandOutcome.finish_obliged _ n).mpr ((State.hasObligation_iff _ n).mp obliged)
        · rw [hl'] at hl; cases hl
    · rw [if_neg hn] at changed
      exact .of_same _ (changed.trans (record n))

/-- TAKE NOTICE frees the record of the head if it is RETIRED (R24, R158). -/
theorem State.LifeStep.take {s u : State} (same : u.stations = s.stations) (list : u.noticeList = s.noticeList)
    (law : s.retiredNoticeLaw) (p : ParamBlock) (n : StationNo) : s.LifeStep (takeNoticeCommand p u).finish (some 0x40) n := by
  have record := State.record_congr same
  rcases takeNotice_cases p u with e | ⟨m, rest, takes⟩
  · exact .of_same _ ((State.record_congr (congrArg State.stations e) n).trans (record n))
  · have changed : (takeNoticeCommand p u).finish.record n = if n = m then (u.record m).bind takenRecord else u.record n := takes.records n
    by_cases hn : n = m
    · subst hn
      rw [if_pos rfl, record] at changed
      -- The record after it, by what it was.
      have unset {r : StationRecord} (hr : s.record n = some r) (hl : r.life ≠ .retired) :
          (takeNoticeCommand p u).finish.record n = some { r with notices := NoticeSet.none } := by
        have off : r.notices.retired = false := by rw [← Bool.not_eq_true, law n r hr]; exact hl
        rw [changed, hr, Option.bind_some, takenRecord, off]; rfl
      have set {r : StationRecord} (hr : s.record n = some r) (hl : r.life = .retired) : (takeNoticeCommand p u).finish.record n = none := by
        rw [changed, hr, Option.bind_some, takenRecord, if_pos ((law n r hr).mpr hl)]
      refine ⟨fun free r hr => ?_, fun r hr hl => ⟨_, unset hr (by simp [hl]), fun e => absurd hl e, fun e => ?_⟩,
        fun r hr hl => ⟨_, unset hr (by simp [hl]), by simp [hl]⟩, fun r hr hl => ⟨fun q hq => ?_, fun _ => ⟨rfl, ?_⟩⟩⟩
      · rw [changed, free] at hr; cases hr
      · rw [hl] at e; cases e
      · rw [set hr hl] at hq; cases hq
      · rw [← list, takes.head]; rfl
    · rw [if_neg hn] at changed
      exact .of_same _ (changed.trans (record n))

/-- The table of R6 at every row but a hardware reset. -/
theorem exec_lifeStep (c : Instr) (s t : State) (law : s.retiredNoticeLaw) (e : exec c s = .next t) (hreset : ∀ p, c ≠ .hardwareReset p)
    (n : StationNo) : s.LifeStep t (completes s c) n := by
  rcases exec_cases c s t e hreset with evolves | ⟨code, p, u, hl, hc, same, list, -, rfl⟩
  · exact evolves.lifeStep _ n
  · rw [hc]
    rcases hl with rfl | rfl | rfl
    · exact .define same p n
    · exact .retire same p n
    · exact .take same list law p n

/-- Every row keeps the agreement of the notice RETIRED with the life state (R24). -/
theorem exec_keeps_retiredNoticeLaw (c : Instr) (s t : State) (law : s.retiredNoticeLaw) (e : exec c s = .next t) : t.retiredNoticeLaw := by
  rcases exec_ages_or_defines c s t e with ages | ⟨p, u, n, _, hs, _, ht⟩
  · exact ages.retiredNoticeLaw law
  · have before : u.retiredNoticeLaw := fun m r hr => law m r (State.record_congr hs m ▸ hr)
    intro m r hr
    exact State.retiredNoticeLaw_define before (definitionOf p) u.lockout m r (State.record_congr ht m ▸ hr)

/-- A station no longer ONLINE is RETIRING exactly while it is obliged (R21, R59, R76, R103). -/
theorem State.Inv.retiring_iff_obliged {s : State} (h : s.Inv) {n : StationNo} {r : StationRecord} (hr : s.record n = some r)
    (off : r.life ≠ .online) : r.life = .retiring ↔ Obliged s n := by
  constructor
  · exact h.laws.retiring n r (by simp) hr
  · intro obliged
    obtain ⟨q, hq, live⟩ := h.laws.liveAt_of_obliged obliged
    obtain rfl := Option.some.inj (hr.symm.trans hq)
    exact ((LifeState.ne_retired_iff _).mp live).resolve_left off

/-- Settles O9: the records evolve unless DEFINE STATION, RETIRE STATION or TAKE NOTICE completes, and the laws that every row keeps tie
RETIRING to the obligations. -/
theorem lifeStatesFollowTheTable : Obligations.LifeStatesFollowTheTable := by
  intro c s t law e hreset
  refine ⟨exec_keeps_retiredNoticeLaw c s t law e, fun n => ?_⟩
  have life := exec_lifeStep c s t law e hreset n
  split
  · next free => exact life.defined free
  · next r hr =>
    split
    · next online => exact life.left r hr online
    · next retiring =>
      obtain ⟨q, hq, off⟩ := life.retiring r hr retiring
      exact ⟨q, hq, off, fun inv => (exec_keeps_inv c s t inv e).retiring_iff_obliged hq off⟩
    · next retired => exact life.retired r hr retired

end Sys2Proof.Machine

/-! ## The address tests, the hardware reset, and ADJUST and RETIRE STATION as their rules state them -/

namespace Sys2Proof.Proofs

-- One theorem after the other: each thread of its own would take a stack.
set_option Elab.async false

open Sys2Proof Sys2Proof.Machine Sys2Proof.Claims

/-! ### The address tests -/

/-- The units a match width covers (R2). -/
theorem coversUnit_iff (w : MatchWidth) (base u : LinkUnit) : coversUnit w base u = true ↔ u.val ≠ 127 ∧
    (match w with
      | .exact => u.val = base.val
      | .pair => u.val = base.val ∨ u.val = base.val + 1
      | .quad => u.val = base.val ∨ u.val = base.val + 1 ∨ u.val = base.val + 2 ∨ u.val = base.val + 3) := by
  simp only [coversUnit, decide_eq_true_eq]
  refine and_congr_right fun _ => ?_
  cases w <;> simp only [MatchWidth.span] <;> omega

/-- The port test of a ROUTE address (R48). -/
theorem covers_iff (p : PortPolicy) (port : Option LinkPort) : p.covers port = true ↔
    (match p with
      | .noPort => port = none
      | .fixed q => port = some q
      | .openPort => port ≠ none) := by
  cases p with
  | noPort => exact Option.isNone_iff_eq_none
  | fixed q => exact decide_eq_true_iff
  | openPort => exact Option.isSome_iff_ne_none

/-- The POLL test is the ROUTE test, and an OPEN station passes through its accepted port alone (R49). -/
theorem matchesPoll_iff (r : StationRecord) (a : Address) : r.matchesPoll a = true ↔
    r.matchesRoute a = true ∧ (r.policy = .openPort → a.port = r.acceptedPort) := by
  rw [StationRecord.matchesPoll, Bool.and_eq_true, StationRecord.matchesRoute_iff, and_assoc]
  refine and_congr_right fun _ => ?_
  cases r.policy with
  | noPort => exact (and_iff_left nofun).symm
  | fixed q => exact (and_iff_left nofun).symm
  | openPort => simp [PortPolicy.covers]

/-- Settles O13: the unit test by the width, the port test by the policy. -/
theorem matchTests : Obligations.MatchTests := by
  refine ⟨fun r a _ => ?_, matchesPoll_iff⟩
  exact (r.matchesRoute_iff a).trans ((and_congr (coversUnit_iff r.width r.unit a.unit) (covers_iff r.policy a.port)).trans and_assoc)

/-! ### The hardware reset -/

/-- Settles O14: the state is the one written out, and the outputs read nothing of what a reset keeps. -/
theorem hardwareReset : Obligations.HardwareReset := by
  refine ⟨fun _ _ => rfl, fun _ => rfl, fun s powerOn t h => ?_⟩
  obtain rfl := Host.Outcome.next.inj h
  have link : State.reset.linkState = 0 := by decide
  have triggers : State.reset.triggerState = 0 := by decide
  have interrupt : State.reset.nirqAsserted = false := by decide
  exact ⟨link, triggers, interrupt, rfl, fun _ => rfl⟩

/-! ### Rows of host commands -/

theorem Ready.free {s : State} (h : Ready s) : s.busyEngine = false := by
  obtain ⟨_, idle⟩ := h
  unfold State.busyEngine
  split
  · next c p e => exact absurd e (idle c p)
  · rfl

/-- A command the host can issue completes. -/
theorem Ready.issue {s : State} (h : Ready s) (code : Byte) (act : ParamBlock → State → CommandOutcome) :
    s.issue code act = (act s.params (s.accept code)).finish :=
  s.issue_ready code act h.1 (Ready.free h)

theorem Ready.issueRetire {s : State} (h : Ready s) (mode : Byte) (act : ParamBlock → State → CommandOutcome) :
    s.issueRetire mode act = (act (s.params.set 1 mode) (({ s with params := s.params.set 1 mode } : State).accept 0x13)).finish :=
  s.issueRetire_ready mode act h.1 (Ready.free h)

theorem setRecord_setRecord (s : State) (n : StationNo) (a b : Option StationRecord) :
    (s.setRecord n a).setRecord n b = s.setRecord n b := by
  simp only [State.setRecord, Vector.set_set]

theorem updateRecord_eq_setRecord {s : State} {n : StationNo} {r : StationRecord} (hr : s.record n = some r)
    (f : StationRecord → StationRecord) : s.updateRecord n f = s.setRecord n (some (f r)) := by
  rw [State.updateRecord, hr]; rfl

/-! ### ADJUST STATION -/

/-- Settles O44: the station field, the trigger line field and the life state are tested in that order. -/
theorem adjustStation : Obligations.AdjustStation := by
  have row {s : State} (h : Ready s) : exec .adjustStation s = .next (adjustStationCommand s.params (s.accept 0x11)).finish :=
    congrArg Host.Outcome.next (Ready.issue h 0x11 adjustStationCommand)
  refine ⟨fun s n r ready names ⟨hr, online⟩ line => ?_, fun s n ready names big other => ?_,
    fun s ready => ⟨fun big => ?_, fun line n names free => ?_, fun line n r names hr off => ?_⟩⟩
  · rw [row ready, adjustStationCommand, stationField_val _ n names]
    dsimp only
    rw [triggerField_eq_some _ line]
    dsimp only
    rw [withStation_accepts (s.accept 0x11) n _ _ r hr (decide_eq_true online), updateRecord_eq_setRecord (s := s.accept 0x11) hr]
    rfl
  · rw [row ready, adjustStationCommand, stationField_val _ n names]
    dsimp only
    rw [triggerField_eq_none _ (by omega)]
    rfl
  · rw [row ready, adjustStationCommand, stationField_none _ big]
    rfl
  · rw [row ready, adjustStationCommand, stationField_val _ n names]
    dsimp only
    rw [triggerField_eq_some _ line]
    dsimp only
    rw [withStation_free (s.accept 0x11) n _ _ free]
    rfl
  · rw [row ready, adjustStationCommand, stationField_val _ n names]
    dsimp only
    rw [triggerField_eq_some _ line]
    dsimp only
    rw [withStation_refuses (s.accept 0x11) n _ _ r hr (decide_eq_false (show ¬ r.life = .online from off))]
    rfl

/-! ### RETIRE STATION -/

/-- The state in which a row of RETIRE STATION acts: the mode written and the command accepted. -/
def retiring (s : State) (mode : Byte) : State := ({ s with params := s.params.set 1 mode } : State).accept 0x13

theorem obliged_retiring (s : State) (mode : Byte) (n : StationNo) : Obliged (retiring s mode) n ↔ Obliged s n :=
  State.SameBlocks.obliged ⟨rfl, rfl, rfl, rfl, rfl⟩ n

/-- The row completes the command in the mode of the row. -/
theorem retireRow {s : State} (h : Ready s) (mode : Byte) :
    s.issueRetire mode retireStationCommand = (retireStationCommand (s.params.set 1 mode) (retiring s mode)).finish :=
  Ready.issueRetire h mode retireStationCommand

theorem params_retiring (s : State) (mode : Byte) : (s.params.set 1 mode)[0] = s.params[0] ∧ (s.params.set 1 mode)[1] = mode := by
  constructor <;> simp

/-- The command on a station the row names. -/
theorem retireStationCommand_names {s : State} {n : StationNo} (names : Names s n) (mode : Byte) (u : State) :
    retireStationCommand (s.params.set 1 mode) u =
      if mode = 0 then withStation u n acceptsOnline (fun _ => Machine.retireGraceful u n)
      else if mode = 1 then withStation u n acceptsLive (fun r => Machine.retireImmediate u n r)
      else .badField u 2 := by
  obtain ⟨first, second⟩ := params_retiring s mode
  rw [retireStationCommand, first, second, stationField_val _ n names]

/-- A station number above 31 (R17). -/
theorem retireStationCommand_badStation {s : State} (big : 32 ≤ s.params[0].toNat) (mode : Byte) (u : State) :
    retireStationCommand (s.params.set 1 mode) u = .badField u 1 := by
  rw [retireStationCommand, (params_retiring s mode).1, stationField_none _ big]

/-- The steps of R23 on a record at hand. -/
theorem becomeRetired_eq {s : State} {n : StationNo} {r : StationRecord} (hr : s.record n = some r) :
    s.becomeRetired n = { s.setRecord n (some (retired r)) with noticeList := joins s n r } := by
  have changed (t : State) (q : StationRecord) (hq : t.record n = some q) : t.changeNotices n retiredNotices =
      { t.setRecord n (some { q with notices := retiredNotices q.notices }) with
        noticeList := if q.notices.isEmpty then t.noticeList ++ [n] else t.noticeList } := by
    rw [State.changeNotices, hq]
  rw [State.becomeRetired, updateRecord_eq_setRecord hr, changed _ _ (State.record_setRecord_self ..), setRecord_setRecord, joins]
  simp only [NoticeSet.isEmpty_iff]
  rfl

theorem quietStation_eq {s : State} {n : StationNo} {r : StationRecord} (hr : s.record n = some r) :
    s.quietStation n = s.setRecord n (some { r with request := .quiet, outbound := .empty }) :=
  updateRecord_eq_setRecord hr _

/-- RETIRE STATION GRACEFUL on an ONLINE station, by its obligations before the command: they are the same after the steps of R18. -/
theorem retireGraceful_eq {s : State} {n : StationNo} {r : StationRecord} (hr : s.record n = some r) :
    (Obliged s n → Machine.retireGraceful s n =
      .plain (s.setRecord n (some { r with request := .quiet, outbound := .empty, life := .retiring })) .pending) ∧
    (¬ Obliged s n → Machine.retireGraceful s n =
      .plain { s.setRecord n (some (retired { r with request := .quiet, outbound := .empty })) with noticeList := joins s n r } .ok) := by
  have same : (s.quietStation n).hasObligation n = true ↔ Obliged s n :=
    (State.hasObligation_iff _ n).trans (State.SameBlocks.obliged ⟨rfl, rfl, rfl, rfl, rfl⟩ n)
  have hq : (s.quietStation n).record n = some { r with request := .quiet, outbound := .empty } := by
    rw [quietStation_eq hr, State.record_setRecord_self]
  constructor
  · intro obliged
    rw [Machine.retireGraceful, if_pos (same.mpr obliged), updateRecord_eq_setRecord hq, quietStation_eq hr, setRecord_setRecord]
  · intro free
    rw [Machine.retireGraceful, if_neg (fun e => free (same.mp e)), becomeRetired_eq hq, quietStation_eq hr, setRecord_setRecord]
    rfl

/-- Settles O46: the mode of the row is written before the command acts, and the obligations decide between RETIRING and RETIRED. -/
theorem retireGraceful : Obligations.RetireGraceful := by
  have row {s : State} (h : Ready s) :
      exec .retireStationGraceful s = .next (retireStationCommand (s.params.set 1 0) (retiring s 0)).finish :=
    congrArg Host.Outcome.next (retireRow h 0)
  refine ⟨fun s n r ready names ⟨hr, online⟩ obliged => ?_, fun s n r ready names ⟨hr, online⟩ free => ?_,
    fun s n r ready names hr off => ?_, fun s n ready names free => ?_, fun s ready big => ?_⟩
  · rw [row ready, retireStationCommand_names names, if_pos rfl, withStation_accepts (retiring s 0) n _ _ r hr (decide_eq_true online),
      (retireGraceful_eq (s := retiring s 0) hr).1 ((obliged_retiring s 0 n).mpr obliged)]
    rfl
  · rw [row ready, retireStationCommand_names names, if_pos rfl, withStation_accepts (retiring s 0) n _ _ r hr (decide_eq_true online),
      (retireGraceful_eq (s := retiring s 0) hr).2 (mt (obliged_retiring s 0 n).mp free)]
    rfl
  · rw [row ready, retireStationCommand_names names, if_pos rfl, withStation_refuses (retiring s 0) n _ _ r hr (decide_eq_false off)]
    rfl
  · rw [row ready, retireStationCommand_names names, if_pos rfl, withStation_free (retiring s 0) n _ _ free]
    rfl
  · rw [row ready, retireStationCommand_badStation big]
    rfl

/-- The lanes without a station. -/
theorem lanes_freePlaces (s : State) (n : StationNo) : (s.freePlaces n).lanes = s.lanes.map (fun p => vacate p n) := by
  refine Vector.ext fun i hi => ?_
  have lane := s.place_freePlaces n (some ⟨i, hi⟩)
  rw [Vector.getElem_map]
  exact lane

/-- The cuts of RETIRE STATION IMMEDIATE, block by block (R71, R91, R109). -/
theorem cutStation_blocks (s : State) (n : StationNo) : s.cutStation n =
    { s with
      talkSeat := vacate s.talkSeat n
      lanes := s.lanes.map (fun p => vacate p n)
      holds := s.holds.filter (fun h => decide (h.station ≠ n))
      privateCopy := copyKept s (s.holds.filter (fun h => decide (h.station ≠ n)))
      stage := stageWithout s n } := by
  have copy : (s.removeHold n).discardPrivateCopy.privateCopy = copyKept s (s.holds.filter (fun h => decide (h.station ≠ n))) := by
    unfold State.discardPrivateCopy copyKept
    rw [State.removeHold_holds]
    split <;> rfl
  rw [State.cutStation_eq, copy, lanes_freePlaces]
  rfl

/-- RETIRE STATION IMMEDIATE on a station that is not RETIRED: the steps of R18 if it is ONLINE, the cuts, and the steps of R23. -/
theorem retireImmediate_eq {s : State} {n : StationNo} {r : StationRecord} (hr : s.record n = some r) :
    Machine.retireImmediate s n r = .plain
      { s with
        stations := s.stations.set n (some (retired (if r.life = .online then { r with request := .quiet, outbound := .empty } else r)))
        noticeList := joins s n r
        talkSeat := vacate s.talkSeat n
        lanes := s.lanes.map (fun p => vacate p n)
        holds := s.holds.filter (fun h => decide (h.station ≠ n))
        privateCopy := copyKept s (s.holds.filter (fun h => decide (h.station ≠ n)))
        stage := stageWithout s n } .ok := by
  have cut {t : State} {q : StationRecord} (hq : t.record n = some q) : (t.cutStation n).becomeRetired n =
      { (t.cutStation n).setRecord n (some (retired q)) with noticeList := joins (t.cutStation n) n q } :=
    becomeRetired_eq ((State.record_congr (t.stations_cutStation n) n).trans hq)
  by_cases online : r.life = .online
  · have hq : (s.setRecord n (some { r with request := .quiet, outbound := .empty })).record n = _ := State.record_setRecord_self ..
    rw [Machine.retireImmediate, if_pos online, if_pos online, quietStation_eq hr, cut hq, cutStation_blocks]
    simp only [State.setRecord, Vector.set_set]
    rfl
  · rw [Machine.retireImmediate, if_neg online, if_neg online, cut hr, cutStation_blocks]
    rfl

/-- Settles O47: the cuts take the station out of every block before the steps of R23. -/
theorem retireImmediate : Obligations.RetireImmediate := by
  have row {s : State} (h : Ready s) :
      exec .retireStationImmediate s = .next (retireStationCommand (s.params.set 1 1) (retiring s 1)).finish :=
    congrArg Host.Outcome.next (retireRow h 1)
  refine ⟨fun s n r ready names hr live => ?_, fun s n r ready names hr off => ?_, fun s n ready names free => ?_,
    fun s ready big => ?_⟩
  · rw [row ready, retireStationCommand_names names, if_neg (by decide), if_pos rfl,
      withStation_accepts (retiring s 1) n _ _ r hr (decide_eq_true live), retireImmediate_eq (s := retiring s 1) hr]
    rfl
  · rw [row ready, retireStationCommand_names names, if_neg (by decide), if_pos rfl,
      withStation_refuses (retiring s 1) n _ _ r hr (decide_eq_false (not_not_intro off))]
    rfl
  · rw [row ready, retireStationCommand_names names, if_neg (by decide), if_pos rfl, withStation_free (retiring s 1) n _ _ free]
    rfl
  · rw [row ready, retireStationCommand_badStation big]
    rfl

end Sys2Proof.Proofs

/-! ## DEFINE STATION as its rules state it -/

namespace Sys2Proof.Proofs

-- One theorem after the other: each thread of its own would take a stack.
set_option Elab.async false

open Sys2Proof Sys2Proof.Machine Sys2Proof.Claims

/-! ### The lowest-numbered station -/

/-- A search through the stations finds the lowest that passes, or none. -/
theorem find?_stationNumbers {p : StationNo → Bool} {P : StationNo → Prop} (hp : ∀ m, p m = true ↔ P m) :
    (∀ m, P m → (∀ j, j < m → ¬ P j) → stationNumbers.find? p = some m) ∧ ((∀ m, ¬ P m) → stationNumbers.find? p = none) := by
  constructor
  · intro m hm low
    rw [stationNumbers, List.find?_eq_some_iff_getElem]
    refine ⟨(hp m).mpr hm, m.val, by simp, by simp, fun j hj => ?_⟩
    rw [List.getElem_finRange, Bool.not_eq_true', ← Bool.not_eq_true, hp]
    exact low _ hj
  · intro none
    rw [List.find?_eq_none]
    exact fun m _ => fun h => none m ((hp m).mp h)

/-! ### The record described -/

theorem widthNumber_inj {w : MatchWidth} {b : Byte} (h : widthNumber w = b.toNat) : w = widthOf b := by
  unfold widthOf
  rw [← h]
  cases w <;> rfl

/-- The record that the parameters describe is the one DEFINE STATION makes (R14). -/
theorem eq_newRecord_of_described {s : State} {r : StationRecord} (h : described s r) : r = newRecord (definitionOf s.params) s.lockout := by
  obtain ⟨life, unit, width, policy, accepted, talk, listen, inRegion, outRegion, options, trigger, matched, status, request, mode,
    inbound, outbound, notices⟩ := r
  obtain ⟨rfl, hwidth, hunit, rfl, rfl, rfl, rfl, rfl, rfl, rfl, rfl, rfl, rfl, rfl, rfl, rfl, rfl, rfl⟩ := h
  obtain rfl := widthNumber_inj hwidth
  have small : s.params[2].toNat < 128 := lt_of_eq_of_lt hunit.symm unit.isLt
  obtain rfl : (definitionOf s.params).unit = unit := Fin.ext ((Nat.mod_eq_of_lt small).trans hunit.symm)
  rfl

/-! ### The record chosen and the stations in conflict -/

/-- The record chosen is FREE: the one named, or the lowest-numbered (R11). -/
theorem chooseRecord_of_chosen {s : State} {n : StationNo} (h : Chosen s n) : s.chooseRecord (definitionOf s.params) = .ok n := by
  obtain ⟨free, named | ⟨any, low⟩⟩ := h
  · rw [State.chooseRecord, show (definitionOf s.params).station = some n from stationField_val _ n named]
    exact if_pos free
  · have lowest := (find?_stationNumbers (p := fun m => decide (s.record m = none)) (fun m => decide_eq_true_iff)).1 n free low
    rw [State.chooseRecord, show (definitionOf s.params).station = none from stationField_none _ (by omega)]
    dsimp only
    rw [lowest]

/-- A key in conflict, as the search of R12 tests it. -/
theorem keyConflict_iff (s : State) (d : Definition) (lockout : Bool) (m : StationNo) :
    s.onlineWith m d.keyConflicts = true ↔ KeyConflict s (newRecord d lockout) m := by
  rw [State.onlineWith_iff]
  simp only [d.keyConflicts_iff lockout, KeyConflict, exists_and_left]

/-- The lowest-numbered station with a key in conflict, if there is one (R12). -/
theorem addressConflict_eq (s : State) (d : Definition) (lockout : Bool) :
    (∀ m, KeyConflict s (newRecord d lockout) m → (∀ j, j < m → ¬ KeyConflict s (newRecord d lockout) j) → s.addressConflict d = some m) ∧
    ((∀ m, ¬ KeyConflict s (newRecord d lockout) m) → s.addressConflict d = none) :=
  find?_stationNumbers (keyConflict_iff s d lockout)

/-- Two regions in range share a page exactly when they share an address. -/
theorem regionsMeet_iff_contains {g h : Option Region} (hg : ∀ g', g = some g' → 1 ≤ g'.count) (hh : ∀ h', h = some h' → 1 ≤ h'.count) :
    regionsMeet g h = true ↔ ∃ g' h' a, g = some g' ∧ h = some h' ∧ g'.contains a = true ∧ h'.contains a = true := by
  rw [regionsMeet_iff]
  constructor
  · rintro ⟨g', h', eg, eh, overlap⟩
    obtain ⟨a, ha, ha'⟩ := (Region.overlaps_iff (hg g' eg) (hh h' eh)).mp overlap
    exact ⟨g', h', a, eg, eh, ha, ha'⟩
  · rintro ⟨g', h', a, eg, eh, ha, ha'⟩
    exact ⟨g', h', eg, eh, Region.overlaps_of_contains ha ha'⟩

/-- A region of a definition that shares an address with one of a record, whose regions are in range (R13). -/
theorem regionConflicts_iff_contains {p : ParamBlock} (pass : ∀ k, fieldPasses p k) (lockout : Bool) {q : StationRecord}
    (range : ∀ j h, q.region j = some h → 1 ≤ h.count) :
    (definitionOf p).regionConflicts q = true ↔ ∃ i j g h a, (newRecord (definitionOf p) lockout).region i = some g ∧
      q.region j = some h ∧ g.contains a = true ∧ h.contains a = true := by
  rw [Definition.regionConflicts_iff _ lockout]
  constructor
  · rintro ⟨i, j, g, h, hg, hh, overlap⟩
    obtain ⟨a, ha, ha'⟩ := (Region.overlaps_iff (definitionOf_region_range pass lockout hg).1 (range j h hh)).mp overlap
    exact ⟨i, j, g, h, a, hg, hh, ha, ha'⟩
  · rintro ⟨i, j, g, h, a, hg, hh, ha, ha'⟩
    exact ⟨i, j, g, h, hg, hh, Region.overlaps_of_contains ha ha'⟩

/-- The lowest-numbered station with pages in conflict, if there is one (R13). -/
theorem regionConflict_eq {s : State} {p : ParamBlock} (law : s.regionLaw) (pass : ∀ k, fieldPasses p k) (lockout : Bool) (n : StationNo) :
    (∀ m, RegionConflict s n (newRecord (definitionOf p) lockout) m →
      (∀ j, j < m → ¬ RegionConflict s n (newRecord (definitionOf p) lockout) j) → s.regionConflict n (definitionOf p) = some m) ∧
    ((∀ m, ¬ RegionConflict s n (newRecord (definitionOf p) lockout) m) → s.regionConflict n (definitionOf p) = none) := by
  refine find?_stationNumbers fun m => ?_
  unfold RegionConflict
  split
  · next e =>
    have inbound (g : Region) (hg : (definitionOf p).inRegion = some g) : 1 ≤ g.count :=
      (definitionOf_region_range pass lockout (i := true) hg).1
    have outbound (g : Region) (hg : (definitionOf p).outRegion = some g) : 1 ≤ g.count :=
      (definitionOf_region_range pass lockout (i := false) hg).1
    rw [regionsMeet_iff_contains inbound outbound]
    simp only [e, ne_eq, not_true_eq_false, true_and, false_and, or_false]
    rfl
  · next e =>
    simp only [e, ne_eq, not_false_eq_true, true_and, false_and, false_or]
    split
    · next free => simp [free]
    · next q hq =>
      rw [Bool.and_eq_true, decide_eq_true_eq, hq]
      constructor
      · rintro ⟨live, conflict⟩
        obtain ⟨i, j, g, h, a, conflict⟩ := (regionConflicts_iff_contains pass lockout fun j h hh => (law.1 m q j h hq live hh).1).mp conflict
        exact ⟨q, i, j, g, h, a, rfl, live, conflict⟩
      · rintro ⟨q', i, j, g, h, a, e, live, conflict⟩
        obtain rfl := Option.some.inj e
        exact ⟨live, (regionConflicts_iff_contains pass lockout fun j h hh => (law.1 m q j h hq live hh).1).mpr ⟨i, j, g, h, a, conflict⟩⟩

/-! ### The command -/

/-- The row of DEFINE STATION completes the command. -/
theorem defineRow {s : State} (h : Ready s) : exec .defineStation s = .next (defineStationCommand s.params (s.accept 0x10)).finish :=
  congrArg Host.Outcome.next (Ready.issue h 0x10 defineStationCommand)

/-- The tests in the order of R10 to R13, with every field passed. -/
theorem defineStationCommand_fields {p : ParamBlock} (pass : ∀ k, fieldPasses p k) (s : State) :
    (∀ r, s.chooseRecord (definitionOf p) = .error r → defineStationCommand p s = .plain s r) ∧
    ∀ n, s.chooseRecord (definitionOf p) = .ok n →
      (∀ m, s.addressConflict (definitionOf p) = some m → defineStationCommand p s = ⟨s, .addressInUse, stationByte m, []⟩) ∧
      (s.addressConflict (definitionOf p) = none →
        (∀ m, s.regionConflict n (definitionOf p) = some m → defineStationCommand p s = ⟨s, .regionInUse, stationByte m, []⟩) ∧
        (s.regionConflict n (definitionOf p) = none →
          defineStationCommand p s = ⟨s.setRecord n (some (newRecord (definitionOf p) s.lockout)), .ok, stationByte n, []⟩)) := by
  unfold defineStationCommand
  rw [defineFields_ok p pass]
  dsimp only
  refine ⟨fun r choice => by rw [choice], fun n choice => ⟨fun m key => by rw [choice, key], fun key => ⟨fun m pages => ?_, fun pages => ?_⟩⟩⟩
  · rw [choice, key]; dsimp only; rw [pages]
  · rw [choice, key]; dsimp only; rw [pages]

/-- Settles O42: the record described is the one the command makes, and no test fails. -/
theorem defineMakesStation : Obligations.DefineMakesStation := by
  intro s n r law ready pass chosen desc keys pages
  obtain rfl := eq_newRecord_of_described desc
  have choice : (s.accept 0x10).chooseRecord (definitionOf s.params) = .ok n := chooseRecord_of_chosen (s := s.accept 0x10) chosen
  obtain ⟨_, key⟩ := ((defineStationCommand_fields pass (s.accept 0x10)).2 n choice)
  obtain ⟨_, made⟩ := key ((addressConflict_eq (s.accept 0x10) _ s.lockout).2 keys)
  rw [defineRow ready, made ((regionConflict_eq (s := s.accept 0x10) law pass s.lockout n).2 pages)]
  rfl

/-- Settles O43: each test refuses when those before it pass. -/
theorem defineRefused : Obligations.DefineRefused := by
  refine ⟨fun s k ready fails => ?_, fun s n r ready pass named taken => ?_, fun s ready pass any taken => ?_,
    fun s n r m ready pass chosen desc conflict low => ?_, fun s n r m law ready pass chosen desc keys conflict low => ?_⟩
  · rw [defineRow ready, defineStationCommand, defineFields_error _ k fails]
    rfl
  · have choice : (s.accept 0x10).chooseRecord (definitionOf s.params) = .error .stationInUse := by
      rw [State.chooseRecord, show (definitionOf s.params).station = some n from stationField_val _ n named]
      exact if_neg (c := s.record n = none) fun free => by rw [taken] at free; cases free
    rw [defineRow ready, (defineStationCommand_fields pass _).1 _ choice]
    rfl
  · have choice : (s.accept 0x10).chooseRecord (definitionOf s.params) = .error .noFreeStation := by
      have nowhere := (find?_stationNumbers (p := fun m => decide (s.record m = none)) (fun m => decide_eq_true_iff)).2 taken
      rw [State.chooseRecord, show (definitionOf s.params).station = none from stationField_none _ (by omega)]
      dsimp only
      rw [show stationNumbers.find? (fun m => decide ((s.accept 0x10).record m = none)) = none from nowhere]
    rw [defineRow ready, (defineStationCommand_fields pass _).1 _ choice]
    rfl
  · obtain rfl := eq_newRecord_of_described desc
    have choice : (s.accept 0x10).chooseRecord (definitionOf s.params) = .ok n := chooseRecord_of_chosen (s := s.accept 0x10) chosen
    have key := (addressConflict_eq (s.accept 0x10) _ s.lockout).1 m conflict low
    rw [defineRow ready, ((defineStationCommand_fields pass _).2 n choice).1 m key]
    rfl
  · obtain rfl := eq_newRecord_of_described desc
    have choice : (s.accept 0x10).chooseRecord (definitionOf s.params) = .ok n := chooseRecord_of_chosen (s := s.accept 0x10) chosen
    have key := (addressConflict_eq (s.accept 0x10) _ s.lockout).2 keys
    have pages := (regionConflict_eq (s := s.accept 0x10) law pass s.lockout n).1 m conflict low
    rw [defineRow ready, (((defineStationCommand_fields pass _).2 n choice).2 key).1 m pages]
    rfl

end Sys2Proof.Proofs

/-! ## READ STATION as its rules state it -/

namespace Sys2Proof.Proofs

-- One theorem after the other: each thread of its own would take a stack.
set_option Elab.async false

open Sys2Proof Sys2Proof.Machine Sys2Proof.Claims

/-! ### The parameter block after result bytes -/

/-- A byte that no result names keeps its value (R172). -/
theorem writeParams_other (rs : ResultBytes) (p : ParamBlock) (i : Fin 32) (h : i ∉ rs.map Prod.fst) : (writeParams p rs)[i] = p[i] := by
  induction rs generalizing p with
  | nil => rfl
  | cons r rs ih =>
    rw [List.map_cons, List.mem_cons, not_or] at h
    refine (ih _ h.2).trans ?_
    exact Vector.getElem_set_ne _ _ fun e => h.1 (Fin.ext e.symm)

/-- A byte named once holds its result. -/
theorem writeParams_named (rs : ResultBytes) (p : ParamBlock) (i : Fin 32) (b : Byte) (nodup : (rs.map Prod.fst).Nodup) (h : (i, b) ∈ rs) :
    (writeParams p rs)[i] = b := by
  induction rs generalizing p with
  | nil => cases h
  | cons r rs ih =>
    rw [List.map_cons, List.nodup_cons] at nodup
    rcases List.mem_cons.mp h with rfl | h
    · refine (writeParams_other rs _ i nodup.1).trans ?_
      exact Vector.getElem_set_self _
    · exact ih _ nodup.2 h

/-- The results of READ STATION stand in bytes 1 to 30, each once. -/
theorem recordBytes_numbers (s : State) (n : StationNo) (r : StationRecord) :
    (recordBytes s n r).map Prod.fst = (List.finRange 32).tail.dropLast := rfl

theorem recordBytes_nodup (s : State) (n : StationNo) (r : StationRecord) : ((recordBytes s n r).map Prod.fst).Nodup := by
  rw [recordBytes_numbers]
  exact ((List.nodup_finRange 32).sublist (List.tail_sublist _)).sublist (List.dropLast_sublist _)

/-- The parameter block READ STATION leaves. -/
def readParams (s : State) (n : StationNo) (r : StationRecord) : ParamBlock :=
  (writeParams s.params (recordBytes s n r)).set 31 0

/-- The byte at a place of the list of results. -/
theorem readParams_result {s : State} {n : StationNo} {r : StationRecord} (k : Nat) (i : Fin 32) (b : Byte)
    (h : (recordBytes s n r)[k]? = some (i, b)) (hi : i.val < 31) : (readParams s n r)[i] = b :=
  (Vector.getElem_set_ne _ _ (Nat.ne_of_gt hi)).trans
    (writeParams_named _ _ i b (recordBytes_nodup s n r) (List.mem_of_getElem? h))

/-- Byte 0 keeps the station number. -/
theorem readParams_station (s : State) (n : StationNo) (r : StationRecord) : (readParams s n r)[0] = s.params[0] := by
  rw [readParams, Vector.getElem_set_ne _ _ (by decide)]
  refine writeParams_other _ _ 0 ?_
  rw [recordBytes_numbers]
  decide

/-! ### The bytes of the fields -/

theorem toNat_ofNat_byte (n : Nat) (h : n < 256) : (BitVec.ofNat 8 n).toNat = n := by
  rw [BitVec.toNat_ofNat]; exact Nat.mod_eq_of_lt h

theorem lifeByte_toNat (l : LifeState) (talk listen : Bool) : (l.code ||| bitAt talk 4 ||| bitAt listen 5).toNat =
    (match l with | .online => 1 | .retiring => 2 | .retired => 3) + (if talk then 16 else 0) + (if listen then 32 else 0) := by
  cases l <;> revert talk listen <;> decide

theorem keyByte_toNat (w : MatchWidth) (p : PortPolicy) : (w.code ||| (p.code <<< 2) ||| p.portBits).toNat =
    widthNumber w + (match p with | .noPort => 0 | .fixed q => 4 + 16 * q.val | .openPort => 8) := by
  cases p with
  | noPort => cases w <;> rfl
  | fixed q => cases w <;> revert q <;> decide
  | openPort => cases w <;> rfl

theorem optionsByte_toNat (o : HoldOptions) : o.byte.toNat = (if o.onClear then 1 else 0) + (if o.onTrigger then 2 else 0) +
    (if o.onEnd then 4 else 0) + (if o.passPrivate then 8 else 0) := by
  have all : ∀ a b c d : Bool, (HoldOptions.byte ⟨a, b, c, d⟩).toNat =
      (if a then 1 else 0) + (if b then 2 else 0) + (if c then 4 else 0) + (if d then 8 else 0) := by decide
  exact all o.onClear o.onTrigger o.onEnd o.passPrivate

theorem triggerByte_toNat (l : Option LineNo) : (triggerByte l).toNat = (match l with | none => 255 | some l => l.val) := by
  cases l with
  | none => rfl
  | some l => exact toNat_ofNat_byte _ (by omega)

theorem portByte_toNat (p : Option LinkPort) : (portByte p).toNat = (match p with | none => 0 | some q => 128 + q.val) := by
  cases p with
  | none => rfl
  | some q => revert q; decide

theorem inboundByte_toNat (i : Inbound) : i.byte.toNat =
    (match i with | .empty => 0 | .filling _ => 1 | .complete _ c => 2 + (if c then 128 else 0)) := by
  cases i with
  | empty => rfl
  | filling f => rfl
  | complete f c => cases c <;> rfl

theorem outboundByte_toNat (o : Outbound) : (o.code ||| bitAt o.endFlag 7).toNat =
    (match o with
      | .empty => 0
      | .posted _ e => 1 + (if e then 128 else 0)
      | .sending _ e _ => 2 + (if e then 128 else 0)
      | .closing _ e _ => 3 + (if e then 128 else 0)) := by
  have marked : ∀ e : Bool, ((1 : Byte) ||| bitAt e 7).toNat = 1 + (if e then 128 else 0) ∧
      ((2 : Byte) ||| bitAt e 7).toNat = 2 + (if e then 128 else 0) ∧ ((3 : Byte) ||| bitAt e 7).toNat = 3 + (if e then 128 else 0) := by
    decide
  cases o with
  | empty => rfl
  | posted n e => exact (marked e).1
  | sending n e c => exact (marked e).2.1
  | closing n e c => exact (marked e).2.2

/-- Two bytes hold a number of two bytes. -/
theorem lowByte_add_highByte (n : Nat) (h : n < 65536) : (lowByte n).toNat + 256 * (highByte n).toNat = n := by
  rw [lowByte, highByte, BitVec.toNat_ofNat, BitVec.toNat_ofNat]
  omega

theorem noticeBytes_toNat (ns : NoticeSet) : ns.lowByte.toNat + 256 * ns.highByte.toNat = noticeNumber ns := by
  have low : ∀ a b c d e f g h : Bool, (bitAt a 0 ||| bitAt b 1 ||| bitAt c 2 ||| bitAt d 3 ||| bitAt e 4 ||| bitAt f 5 ||| bitAt g 6 |||
      bitAt h 7).toNat = a.toNat + 2 * b.toNat + 4 * c.toNat + 8 * d.toNat + 16 * e.toNat + 32 * f.toNat + 64 * g.toNat +
        128 * h.toNat := by decide
  have high : ∀ a b c : Bool, (bitAt a 0 ||| bitAt b 1 ||| bitAt c 2).toNat = a.toNat + 2 * b.toNat + 4 * c.toNat := by decide
  rw [NoticeSet.lowByte, NoticeSet.highByte, low, high, noticeNumber]
  omega

/-! ### The lengths -/

/-- A region holds at most 2048 bytes (R4). -/
theorem regionCapacity_le {r : StationRecord} (h : r.Sound) (i : Bool) : regionCapacity (r.region i) ≤ 2048 := by
  cases hg : r.region i with
  | none => exact Nat.zero_le _
  | some g =>
    have live : r.life ≠ .retired := by
      cases i with
      | true => exact (h.inRegion_iff.mp (show r.inRegion ≠ none by rw [show r.inRegion = some g from hg]; simp)).2
      | false => exact (h.outRegion_iff.mp (show r.outRegion ≠ none by rw [show r.outRegion = some g from hg]; simp)).2
    have range := h.range live i g hg
    show g.count * 32 ≤ 2048
    omega

theorem fill_le {r : StationRecord} (h : r.Sound) : r.inbound.fill ≤ 2048 := by
  have capacity : regionCapacity r.inRegion ≤ 2048 := regionCapacity_le h true
  have law := h.inboundLaw
  unfold StationRecord.inboundLaw at law
  cases hi : r.inbound with
  | empty => exact Nat.zero_le _
  | filling f =>
    rw [hi] at law
    have : f + 1 ≤ regionCapacity r.inRegion := law.2
    show f ≤ 2048
    omega
  | complete f c =>
    rw [hi] at law
    exact Nat.le_trans law.2 capacity

theorem postedLength_cursor_le {r : StationRecord} (h : r.Sound) : r.outbound.postedLength ≤ 2048 ∧ r.outbound.cursor ≤ 2048 := by
  have capacity : regionCapacity r.outRegion ≤ 2048 := regionCapacity_le h false
  have law := h.outboundLaw
  unfold StationRecord.outboundLaw at law
  cases ho : r.outbound with
  | empty => exact ⟨Nat.zero_le _, Nat.zero_le _⟩
  | posted n e =>
    rw [ho] at law
    exact ⟨Nat.le_trans law.2.1 capacity, Nat.zero_le _⟩
  | sending n e c =>
    rw [ho] at law
    obtain ⟨fits, _, below⟩ := law
    exact ⟨Nat.le_trans fits capacity, show c ≤ 2048 by omega⟩
  | closing n e c =>
    rw [ho] at law
    obtain ⟨fits, _, below⟩ := law
    exact ⟨Nat.le_trans fits capacity, show c ≤ 2048 by omega⟩

/-! ### The seat and the hold -/

/-- The number of a seat, as byte 24 has it without the owed bit. -/
def seatValue : Seat → Nat
  | .none => 0
  | .talker t => 1 + (if t then 128 else 0)
  | .lane i t => 2 + i.val + (if t then 128 else 0)

theorem seatByte_toNat (x : Seat) (owed : Bool) : (x.byte ||| bitAt owed 6).toNat = seatValue x + (if owed then 64 else 0) := by
  cases x with
  | none => cases owed <;> rfl
  | talker t => revert t owed; decide
  | lane i t => revert i t owed; decide

/-- A place that holds the station holds it with the mark read there. -/
theorem eq_some_of_placeHolds {p : Option Place} {n : StationNo} (h : placeHolds p n = true) : p = some ⟨n, placeTentative p⟩ := by
  obtain ⟨q, rfl, rfl⟩ := (placeHolds_iff p n).mp h
  rfl

/-- The seat field names the place that holds the station, if one does (R60). -/
theorem seatNumber_seatOf (s : State) (n : StationNo) : SeatNumber s n (seatValue (s.seatOf n)) := by
  unfold State.seatOf
  split
  · next talks => exact .inr (.inl ⟨_, eq_some_of_placeHolds talks, rfl⟩)
  · next silent =>
    split
    · next l hl => exact .inr (.inr ⟨l, _, eq_some_of_placeHolds (List.find?_some (p := fun i => placeHolds (s.lane i) n) hl), rfl⟩)
    · next nowhere =>
      refine .inl ⟨rfl, fun i p hp e => ?_⟩
      cases i with
      | none => exact silent ((placeHolds_iff _ n).mpr ⟨p, hp, e⟩)
      | some l => exact List.find?_eq_none.mp nowhere l (mem_laneNumbers l) ((placeHolds_iff _ n).mpr ⟨p, hp, e⟩)

/-- A station's one hold is its pending hold (R76). -/
theorem pendingHold_of_mem {s : State} (h : s.Laws [] []) {k : Hold} {n : StationNo} (hk : k ∈ s.holds) (e : k.station = n) :
    s.pendingHold n = some k := by
  cases hp : s.pendingHold n with
  | none => exact absurd ⟨k, hk, e⟩ ((s.pendingHold_eq_none n).mp hp)
  | some k' =>
    obtain ⟨hk', e'⟩ := s.pendingHold_some n k' hp
    exact congrArg some (List.inj_on_of_nodup_map h.oneHold hk' hk (e'.trans e.symm))

theorem kindByte_toNat (k : HoldKind) : k.code.toNat = kindNumber k := by cases k <;> rfl

theorem timerByte_toNat {t : Option Nat} (h : ∀ n, t = some n → n ≤ 255) : (timerByte t).toNat = t.getD 0 := by
  cases t with
  | none => rfl
  | some n => exact toNat_ofNat_byte n (Nat.lt_succ_of_le (h n rfl))

/-! ### The command -/

/-- The kind of a pending hold as byte 25 has it. -/
def kindByte (h : Option Hold) : Byte := match h with | none => 0 | some h => h.kind.code

/-- The remaining time of a pending hold as byte 27 has it. -/
def remainingByte (h : Option Hold) : Byte := match h with | none => 0 | some h => timerByte h.remaining

/-- The bytes of the pending hold (R172). -/
theorem holdBytes {s : State} (h : s.Laws [] []) {k : Hold} {n : StationNo} (hk : k ∈ s.holds) (e : k.station = n) (free : Nat) :
    (kindByte (s.pendingHold n)).toNat = kindNumber k.kind ∧ holdTagByte (s.pendingHold n) free = k.tag ∧
      (remainingByte (s.pendingHold n)).toNat = k.remaining.getD 0 := by
  rw [pendingHold_of_mem h hk e]
  exact ⟨kindByte_toNat k.kind, rfl, timerByte_toNat fun t ht => (h.timers k hk t ht).2⟩

/-- The bytes of an absent hold (R172). -/
theorem holdBytes_none {s : State} {n : StationNo} (h : ¬ Held s n) : kindByte (s.pendingHold n) = 0 ∧ remainingByte (s.pendingHold n) = 0 := by
  rw [(s.pendingHold_eq_none n).mpr h]
  exact ⟨rfl, rfl⟩

/-- The bytes of a region (R172). -/
theorem regionBytes {o : Option Region} {g : Region} (h : o = some g) (free : Nat) :
    (firstPageByte o free).toNat = g.first.val ∧ (pageCountByte o).toNat = g.count % 256 := by
  rw [h]
  exact ⟨toNat_ofNat_byte _ g.first.isLt, BitVec.toNat_ofNat ..⟩

/-- The seat byte less its owed bit is the number of the seat (R60, R172). -/
theorem seatNumber_byte (s : State) (n : StationNo) :
    SeatNumber s n (((s.seatOf n).byte ||| bitAt (s.isOwed n) 6).toNat - (if owedAt s n then 64 else 0)) := by
  have owed : s.isOwed n = owedAt s n := rfl
  rw [seatByte_toNat, owed, Nat.add_sub_cancel]
  exact seatNumber_seatOf s n

/-- The row of READ STATION completes the command. -/
theorem readRow {s : State} (h : Ready s) : exec .readStation s = .next (readStationCommand s.params (s.accept 0x12)).finish :=
  congrArg Host.Outcome.next (Ready.issue h 0x12 readStationCommand)

/-- READ STATION on a station that is not FREE. -/
theorem readRow_record {s : State} {n : StationNo} {r : StationRecord} (ready : Ready s) (names : Names s n) (hr : s.record n = some r) :
    exec .readStation s = .next { okay s s with params := readParams s n r, freeCount := s.freeCount + 3 } := by
  rw [readRow ready, readStationCommand, stationField_val _ n names]
  dsimp only
  rw [withStation_accepts (s.accept 0x12) n _ _ r hr rfl]
  rfl

/-- Settles O45: each result byte is the byte of its field in the record, the seat or the pending hold. -/
theorem readStation : Obligations.ReadStation := by
  refine ⟨fun s n r inv ready names hr => ⟨_, readRow_record ready names hr, rfl, ?_⟩, fun s ready => ⟨fun big => ?_,
    fun _ n names free => ?_, fun _ n r _ _ refused => absurd trivial refused⟩⟩
  · have laws := inv.laws
    have sound := (laws.records n r hr).1
    obtain ⟨posted, cursor⟩ := postedLength_cursor_le sound
    have result {k : Nat} {i : Fin 32} {b : Byte} (h : (recordBytes s n r)[k]? = some (i, b)) (hi : i.val < 31) :
        (readParams s n r)[i] = b := readParams_result k i b h hi
    have byte {k : Nat} {i : Fin 32} {b : Byte} {v : Nat} (h : (recordBytes s n r)[k]? = some (i, b)) (hi : i.val < 31) (hb : b.toNat = v) :
        (readParams s n r)[i].toNat = v := (congrArg BitVec.toNat (result h hi)).trans hb
    have word {k : Nat} {i j : Fin 32} {v : Nat} (low : (recordBytes s n r)[k]? = some (i, lowByte v))
        (high : (recordBytes s n r)[k + 1]? = some (j, highByte v)) (hi : i.val < 31) (hj : j.val < 31) (hv : v ≤ 2048) :
        (readParams s n r)[i].toNat + 256 * (readParams s n r)[j].toNat = v := by
      rw [result low hi, result high hj]
      exact lowByte_add_highByte v (by omega)
    refine ⟨?station, ?life, ?unit, ?key, ?inRegion, ?noInRegion, ?outRegion, ?noOutRegion, ?options, ?trigger, ?matchedUnit, ?matchedPort,
      ?accepted, ?status, ?request, ?mode, ?inbound, ?fill, ?outbound, ?posted, ?cursor, ?seat, ?held, ?unheld, ?notices, ?unused, ?detail⟩
    case station => exact readParams_station s n r
    case life => exact byte (k := 0) (i := 1) rfl (by decide) (lifeByte_toNat r.life r.mayTalk r.mayListen)
    case unit => exact byte (k := 1) (i := 2) rfl (by decide) (toNat_ofNat_byte _ (by omega))
    case key => exact byte (k := 2) (i := 3) rfl (by decide) (keyByte_toNat r.width r.policy)
    case inRegion =>
      exact fun g hg => ⟨byte (k := 3) (i := 4) rfl (by decide) (regionBytes hg _).1, byte (k := 4) (i := 5) rfl (by decide) (regionBytes hg 0).2⟩
    case noInRegion => exact fun none => (result (k := 4) (i := 5) rfl (by decide)).trans (congrArg pageCountByte none)
    case outRegion =>
      exact fun g hg => ⟨byte (k := 5) (i := 6) rfl (by decide) (regionBytes hg _).1, byte (k := 6) (i := 7) rfl (by decide) (regionBytes hg 0).2⟩
    case noOutRegion => exact fun none => (result (k := 6) (i := 7) rfl (by decide)).trans (congrArg pageCountByte none)
    case options => exact byte (k := 7) (i := 8) rfl (by decide) (optionsByte_toNat r.options)
    case trigger => exact byte (k := 8) (i := 9) rfl (by decide) (triggerByte_toNat r.triggerLine)
    case matchedUnit =>
      refine byte (k := 9) (i := 10) rfl (by decide) ?_
      cases r.lastMatched with
      | none => rfl
      | some a => exact toNat_ofNat_byte _ (by omega)
    case matchedPort =>
      intro a ha
      refine byte (k := 10) (i := 11) rfl (by decide) ?_
      rw [ha]
      exact portByte_toNat a.port
    case accepted => exact byte (k := 11) (i := 12) rfl (by decide) (portByte_toNat r.acceptedPort)
    case status =>
      refine byte (k := 12) (i := 13) rfl (by decide) ?_
      rw [BitVec.toNat_setWidth]
      exact Nat.mod_eq_of_lt (Nat.lt_trans r.status.isLt (by decide))
    case request =>
      refine byte (k := 13) (i := 14) rfl (by decide) ?_
      cases r.request <;> rfl
    case mode =>
      refine byte (k := 14) (i := 15) rfl (by decide) ?_
      cases r.mode <;> rfl
    case inbound => exact byte (k := 15) (i := 16) rfl (by decide) (inboundByte_toNat r.inbound)
    case fill => exact word (k := 16) (i := 17) (j := 18) rfl rfl (by decide) (by decide) (fill_le sound)
    case outbound => exact byte (k := 18) (i := 19) rfl (by decide) (outboundByte_toNat r.outbound)
    case posted => exact word (k := 19) (i := 20) (j := 21) rfl rfl (by decide) (by decide) posted
    case cursor => exact word (k := 21) (i := 22) (j := 23) rfl rfl (by decide) (by decide) cursor
    case seat =>
      have seat := result (k := 23) (i := 24) rfl (by decide)
      have number := seatNumber_byte s n
      rw [← seat] at number
      exact number
    case held =>
      intro k hk e
      obtain ⟨kind, tag, remaining⟩ := holdBytes laws hk e (s.freeCount + 2)
      exact ⟨byte (k := 24) (i := 25) rfl (by decide) kind, (result (k := 25) (i := 26) rfl (by decide)).trans tag,
        byte (k := 26) (i := 27) rfl (by decide) remaining⟩
    case unheld =>
      intro none
      obtain ⟨kind, remaining⟩ := holdBytes_none none
      exact ⟨(result (k := 24) (i := 25) rfl (by decide)).trans kind, (result (k := 26) (i := 27) rfl (by decide)).trans remaining⟩
    case notices =>
      have low : (readParams s n r)[(28 : Fin 32)] = r.notices.lowByte := result (k := 27) rfl (by decide)
      have high : (readParams s n r)[(29 : Fin 32)] = r.notices.highByte := result (k := 28) rfl (by decide)
      have number := noticeBytes_toNat r.notices
      rw [← low, ← high] at number
      exact number
    case unused => exact result (k := 29) (i := 30) rfl (by decide)
    case detail => exact Vector.getElem_set_self _
  · rw [readRow ready, readStationCommand, stationField_none _ big]
    rfl
  · rw [readRow ready, readStationCommand, stationField_val _ n names]
    dsimp only
    rw [withStation_free (s.accept 0x12) n _ _ free]
    rfl

end Sys2Proof.Proofs

/-! ## RESET LINK, DETACH and ATTACH as their rules state them -/

namespace Sys2Proof.Proofs

-- One theorem after the other: each thread of its own would take a stack.
set_option Elab.async false

open Sys2Proof Sys2Proof.Machine Sys2Proof.Claims

/-! ### Passes over the stations -/

/-- A change gives a record whose notice set is empty its first notice. -/
def wakes (g : StationRecord → StationRecord) (r : StationRecord) : Bool :=
  decide (r.notices = NoticeSet.none ∧ (g r).notices ≠ NoticeSet.none)

/-- In every state with `P`, which it keeps, the change `f n` does `g n` to the record of station `n`, puts the station into the notice list
with its first notice, and leaves the rest of the state alone. -/
structure Reaches (P : State → Prop) (f : StationNo → State → State) (g : StationNo → StationRecord → StationRecord) : Prop where
  keeps : ∀ n s, P s → P (f n s)
  record : ∀ n m s, P s → (f n s).record m = if m = n then (s.record n).map (g n) else s.record m
  noticeList : ∀ n s, P s → (f n s).noticeList = if having s (wakes (g n)) n then s.noticeList ++ [n] else s.noticeList
  frame : ∀ n s, f n s = { s with stations := (f n s).stations, noticeList := (f n s).noticeList }
  noticed : ∀ n r, r.notices ≠ NoticeSet.none → (g n r).notices ≠ NoticeSet.none

theorem having_of_record {s : State} {n : StationNo} {r : StationRecord} (hr : s.record n = some r) (p : StationRecord → Bool) :
    having s p n = p r := by
  rw [having, hr]

theorem having_of_free {s : State} {n : StationNo} (hr : s.record n = none) (p : StationRecord → Bool) : having s p n = false := by
  rw [having, hr]

theorem having_congr {s t : State} {n : StationNo} (h : t.record n = s.record n) (p : StationRecord → Bool) : having t p n = having s p n := by
  rw [having, having, h]

theorem having_map {s t : State} {n : StationNo} {g : StationRecord → StationRecord} (h : t.record n = (s.record n).map g)
    (p : StationRecord → Bool) : having t p n = having s (fun r => p (g r)) n := by
  rw [having, having, h]
  cases s.record n <;> rfl

/-- Two changes of the same station, one after the other. -/
theorem Reaches.comp {P : State → Prop} {f f' : StationNo → State → State} {g g' : StationNo → StationRecord → StationRecord}
    (h : Reaches P f g) (h' : Reaches P f' g') : Reaches P (fun n s => f' n (f n s)) (fun n r => g' n (g n r)) where
  keeps n s hs := h'.keeps n _ (h.keeps n s hs)
  record n m s hs := by
    rw [h'.record n m _ (h.keeps n s hs), h.record n m s hs, h.record n n s hs, if_pos rfl]
    split
    · rw [Option.map_map]; rfl
    · rfl
  noticeList n s hs := by
    have own := (h.record n n s hs).trans (if_pos rfl)
    rw [h'.noticeList n _ (h.keeps n s hs), h.noticeList n s hs, having_map own]
    cases hr : s.record n with
    | none => simp only [having_of_free hr, Bool.false_eq_true, if_false]
    | some r =>
      simp only [having_of_record hr, wakes, decide_eq_true_eq]
      by_cases empty : r.notices = NoticeSet.none
      · by_cases still : (g n r).notices = NoticeSet.none
        · simp [empty, still]
        · simp [empty, still, h'.noticed n _ still]
      · simp [empty, h.noticed n r empty]
  frame n s := by rw [h'.frame n (f n s), h.frame n s]
  noticed n r hr := h'.noticed n _ (h.noticed n r hr)

/-- A change made on a condition that the record of its station decides. -/
theorem Reaches.when {P : State → Prop} {f : StationNo → State → State} {g : StationNo → StationRecord → StationRecord}
    (h : Reaches P f g) {c : StationNo → State → Bool} {b : StationNo → StationRecord → Bool}
    (decides : ∀ n s r, P s → s.record n = some r → c n s = b n r) :
    Reaches P (fun n s => if c n s then f n s else s) (fun n r => if b n r then g n r else r) where
  keeps n s hs := by
    split
    · exact h.keeps n s hs
    · exact hs
  record n m s hs := by
    cases hr : s.record n with
    | none =>
      split
      · rw [h.record n m s hs, hr]; rfl
      · split
        · next e => rw [e, hr]; rfl
        · rfl
    | some r =>
      rw [Option.map_some, decides n s r hs hr]
      cases b n r with
      | true => simp only [if_true]; rw [h.record n m s hs, hr]; rfl
      | false =>
        simp only [Bool.false_eq_true, if_false]
        split
        · next e => rw [e, hr]
        · rfl
  noticeList n s hs := by
    cases hr : s.record n with
    | none =>
      rw [having_of_free hr]
      split
      · rw [h.noticeList n s hs, having_of_free hr]
      · rfl
    | some r =>
      rw [having_of_record hr, decides n s r hs hr]
      cases hb : b n r with
      | true => simp only [if_true, wakes, hb]; rw [h.noticeList n s hs, having_of_record hr]; rfl
      | false => simp [wakes, hb]
  frame n s := by
    split
    · exact h.frame n s
    · rfl
  noticed n r hr := by
    split
    · exact h.noticed n r hr
    · exact hr

/-- A change of the record that leaves its notices alone. -/
theorem reaches_updateRecord {g : StationRecord → StationRecord} (notices : ∀ r, (g r).notices = r.notices) :
    Reaches (fun _ => True) (fun n s => s.updateRecord n g) (fun _ => g) where
  keeps _ _ _ := trivial
  record n m s _ := s.record_updateRecord n m g
  noticeList n s _ := by
    have still (r : StationRecord) : wakes g r = false := by simp [wakes, notices]
    cases hr : s.record n with
    | none => rw [having_of_free hr]; rfl
    | some r => rw [having_of_record hr, still]; rfl
  frame _ _ := rfl
  noticed _ r hr := by rwa [notices]

/-- A change of the notices that leaves none of the sets empty. -/
theorem reaches_changeNotices {f : NoticeSet → NoticeSet} (hf : ∀ ns, f ns ≠ NoticeSet.none) :
    Reaches (fun _ => True) (fun n s => s.changeNotices n f) (fun _ r => { r with notices := f r.notices }) where
  keeps _ _ _ := trivial
  record n m s _ := s.record_changeNotices n m f
  noticeList n s _ := by
    cases hr : s.record n with
    | none => rw [having_of_free hr, State.changeNotices, hr]; rfl
    | some r => rw [having_of_record hr, s.noticeList_changeNotices n f r hr]; simp [wakes, hf]
  frame n s := s.changeNotices_frame n f
  noticed _ _ _ := hf _

theorem reaches_addNotice (k : NoticeKind) :
    Reaches (fun _ => True) (fun n s => s.addNotice n k) (fun _ r => { r with notices := r.notices.add k }) :=
  reaches_changeNotices fun ns => ns.add_ne_none k

theorem reaches_becomeRetired : Reaches (fun _ => True) (fun n s => s.becomeRetired n) (fun _ => StationRecord.retire) :=
  (reaches_updateRecord (g := fun r => { r.retire with notices := r.notices }) fun _ => rfl).comp
    (reaches_changeNotices retiredNotices_ne_none)

/-- A change that reaches its station in every state, in the states with a property that a change of records keeps. -/
theorem Reaches.mono {P : State → Prop} {f : StationNo → State → State} {g : StationNo → StationRecord → StationRecord}
    (h : Reaches (fun _ => True) f g) (keeps : ∀ n s, P s → P (f n s)) : Reaches P f g :=
  { h with keeps := keeps, record := fun n m s _ => h.record n m s trivial, noticeList := fun n s _ => h.noticeList n s trivial }

/-- What a pass does to the records: each station of the pass is reached once. -/
theorem Reaches.record_pass {P : State → Prop} {f : StationNo → State → State} {g : StationNo → StationRecord → StationRecord}
    (h : Reaches P f g) (ns : List StationNo) (nodup : ns.Nodup) (s : State) (hs : P s) (m : StationNo) :
    (s.forStations ns f).record m = if m ∈ ns then (s.record m).map (g m) else s.record m := by
  induction ns generalizing s with
  | nil => rfl
  | cons n ns ih =>
    rw [List.nodup_cons] at nodup
    rw [State.forStations_cons, ih nodup.2 _ (h.keeps n s hs), h.record n m s hs]
    by_cases e : m = n
    · subst e; simp [nodup.1]
    · simp [e]

/-- What a pass does to the notice list: the stations that get their first notice join in the order of the pass (R155). -/
theorem Reaches.noticeList_pass {P : State → Prop} {f : StationNo → State → State} {g : StationNo → StationRecord → StationRecord}
    (h : Reaches P f g) (ns : List StationNo) (nodup : ns.Nodup) (s : State) (hs : P s) :
    (s.forStations ns f).noticeList = s.noticeList ++ ns.filter (fun n => having s (wakes (g n)) n) := by
  induction ns generalizing s with
  | nil => exact (List.append_nil _).symm
  | cons n ns ih =>
    rw [List.nodup_cons] at nodup
    have later : ns.filter (fun m => having (f n s) (wakes (g m)) m) = ns.filter (fun m => having s (wakes (g m)) m) :=
      List.filter_congr fun m hm => having_congr ((h.record n m s hs).trans (if_neg fun e : m = n => nodup.1 (e ▸ hm))) _
    rw [State.forStations_cons, ih nodup.2 _ (h.keeps n s hs), later, h.noticeList n s hs, List.filter_cons]
    split
    · rw [List.append_assoc]; rfl
    · rfl

/-- A pass leaves the rest of the state alone. -/
theorem Reaches.frame_pass {P : State → Prop} {f : StationNo → State → State} {g : StationNo → StationRecord → StationRecord}
    (h : Reaches P f g) (ns : List StationNo) (s : State) : s.forStations ns f =
      { s with stations := (s.forStations ns f).stations, noticeList := (s.forStations ns f).noticeList } := by
  induction ns generalizing s with
  | nil => rfl
  | cons n ns ih =>
    rw [State.forStations_cons, ih (f n s), h.frame n s]

/-- A pass over all stations. -/
theorem Reaches.record_all {P : State → Prop} {f : StationNo → State → State} {g : StationNo → StationRecord → StationRecord}
    (h : Reaches P f g) (s : State) (hs : P s) (m : StationNo) :
    (s.forStations stationNumbers f).record m = (s.record m).map (g m) :=
  (h.record_pass stationNumbers (List.nodup_finRange 32) s hs m).trans (if_pos (List.mem_finRange m))

theorem Reaches.noticeList_all {P : State → Prop} {f : StationNo → State → State} {g : StationNo → StationRecord → StationRecord}
    (h : Reaches P f g) (s : State) (hs : P s) : (s.forStations stationNumbers f).noticeList =
      s.noticeList ++ stationNumbers.filter (fun n => having s (wakes (g n)) n) :=
  h.noticeList_pass stationNumbers (List.nodup_finRange 32) s hs

/-! ### The transfers of one station (R43, R108, R122) -/

/-- A record with its transfers reset (R108, R122). -/
def rewindTransfers (r : StationRecord) : StationRecord := { r with inbound := r.inbound.dropFilling, outbound := r.outbound.rewind }

/-- A record given a notice on a condition. -/
def noticedIf (b : Bool) (k : NoticeKind) (r : StationRecord) : StationRecord :=
  if b then { r with notices := r.notices.add k } else r

theorem noticedIf_holdWithdrawn (b : Bool) (r : StationRecord) : noticedIf b .holdWithdrawn r =
    { r with notices := { r.notices with holdWithdrawn := r.notices.holdWithdrawn || b } } := by
  cases b <;> simp [noticedIf, NoticeSet.add]

theorem noticedIf_dataLost (b : Bool) (r : StationRecord) : noticedIf b .dataLost r =
    { r with notices := { r.notices with dataLost := r.notices.dataLost || b } } := by
  cases b <;> simp [noticedIf, NoticeSet.add]

theorem noticedIf_outboundDone (b : Bool) (r : StationRecord) : noticedIf b .outboundDone r =
    { r with notices := { r.notices with outboundDone := r.notices.outboundDone || b } } := by
  cases b <;> simp [noticedIf, NoticeSet.add]

/-- Whether a record's outbound is CLOSING, which the reset settles with OUTBOUND_DONE (R122). -/
def closes (r : StationRecord) : Bool := match r.outbound with | .closing _ _ _ => true | _ => false

/-- What the reset pass does to the record of a station. -/
def resetPass (s : State) (n : StationNo) (r : StationRecord) : StationRecord :=
  noticedIf (s.isLive n && having s closes n) .outboundDone <| noticedIf (s.isOwed n) .dataLost <|
    noticedIf (s.pendingHold n).isSome .holdWithdrawn <| if s.isLive n then rewindTransfers r else r

theorem reaches_noticedIf (b : StationNo → Bool) (k : NoticeKind) :
    Reaches (fun _ => True) (fun n s => if b n then s.addNotice n k else s) (fun n => noticedIf (b n) k) :=
  (reaches_addNotice k).when fun _ _ _ _ _ => rfl

theorem reaches_resetStation (before : State) : Reaches (fun _ => True) (State.resetStation before) (resetPass before) := by
  have rewound : Reaches (fun _ => True) (fun n s => if before.isLive n then s.updateRecord n rewindTransfers else s)
      (fun n r => if before.isLive n then rewindTransfers r else r) :=
    (reaches_updateRecord (g := rewindTransfers) fun _ => rfl).when fun _ _ _ _ _ => rfl
  exact ((rewound.comp (reaches_noticedIf (fun n => (before.pendingHold n).isSome) .holdWithdrawn)).comp
    (reaches_noticedIf before.isOwed .dataLost)).comp
      (reaches_noticedIf (fun n => before.isLive n && having before closes n) .outboundDone)

/-- With no obligation left, a report of R20 retires its station if that is RETIRING. -/
theorem reaches_reportRelease : Reaches (fun t => ∀ n, ¬ Obliged t n) State.reportRelease
    (fun _ r => if decide (r.life = .retiring) then r.retire else r) := by
  refine (reaches_becomeRetired.mono fun n s hs m => ?_).when fun n s r hs hr => ?_
  · rw [(s.becomeRetired_sameBlocks n).obliged]
    exact hs m
  · have free : s.hasObligation n = false := by rw [← Bool.not_eq_true, s.hasObligation_iff]; exact hs n
    rw [free, State.hasLife, hr]
    exact Bool.and_true _

/-- The notices other than RETIRED of a record after the reset (R43). -/
def resetNotices (s : State) (n : StationNo) (r : StationRecord) : NoticeSet :=
  { r.notices with
    holdWithdrawn := r.notices.holdWithdrawn || s.holds.any (fun h => decide (h.station = n))
    dataLost := r.notices.dataLost || s.isOwed n
    outboundDone := r.notices.outboundDone || closes r }

/-- The record of a station between the transfers' reset and the retirements this completes (R43). -/
def rewound (s : State) (n : StationNo) (r : StationRecord) : StationRecord :=
  if r.life = .retired then r
  else { rewindTransfers r.clearPort with notices := resetNotices s n r }

theorem notices_clearPort (r : StationRecord) : r.clearPort.notices = r.notices := by
  unfold StationRecord.clearPort
  split <;> rfl

theorem clearPort_live {r : StationRecord} (live : r.life ≠ .retired) :
    r.clearPort = { r with acceptedPort := if r.policy = .openPort then none else r.acceptedPort } := by
  unfold StationRecord.clearPort
  by_cases isOpen : r.policy = .openPort
  · rw [if_pos ⟨isOpen, live⟩, if_pos isOpen]
  · rw [if_neg fun both => isOpen both.1, if_neg isOpen]

theorem reset_eq (s : State) (n : StationNo) (r : StationRecord) :
    reset s n r = if decide ((rewound s n r).life = .retiring) then (rewound s n r).retire else rewound s n r := by
  unfold reset rewound
  by_cases retired : r.life = .retired
  · simp [retired]
  · simp only [retired, if_false, decide_eq_true_eq, clearPort_live retired]
    rfl

/-- Whether the reset gives a station a notice other than RETIRED (R43). -/
def notified (s : State) (n : StationNo) (r : StationRecord) : Bool :=
  s.holds.any (fun h => decide (h.station = n)) || s.isOwed n || closes r

theorem resetNotices_eq_none (s : State) (n : StationNo) (r : StationRecord) :
    resetNotices s n r = NoticeSet.none ↔ r.notices = NoticeSet.none ∧ notified s n r = false := by
  unfold resetNotices notified NoticeSet.none
  cases r.notices
  simp only [NoticeSet.mk.injEq, Bool.or_eq_false_iff]
  tauto

/-- The notified stations that join the notice list, their sets being empty (R43, R155). -/
def joinsNotified (s : State) (n : StationNo) (r : StationRecord) : Bool := notified s n r && decide (r.notices = NoticeSet.none)

/-- The stations that join the notice list when they are retired, not having been notified before (R43, R155). -/
def joinsRetired (s : State) (n : StationNo) (r : StationRecord) : Bool :=
  decide (r.life = .retiring) && decide (r.notices = NoticeSet.none) && !notified s n r

theorem isSome_pendingHold (s : State) (n : StationNo) : (s.pendingHold n).isSome = s.holds.any (fun h => decide (h.station = n)) :=
  List.isSome_find?

/-- A RETIRED station has neither a hold nor a stage obligation nor a transfer to reset (R23). -/
theorem unaffected_of_retired {s : State} (h : s.Laws [] []) {n : StationNo} {r : StationRecord} (hr : s.record n = some r)
    (retired : r.life = .retired) :
    s.isLive n = false ∧ s.holds.any (fun h => decide (h.station = n)) = false ∧ s.isOwed n = false ∧ closes r = false := by
  have dead (live : s.LiveAt n) : False := by
    obtain ⟨q, hq, live⟩ := live
    exact live (Option.some.inj (hr.symm.trans hq) ▸ retired)
  have unobliged : ¬ Obliged s n := fun obliged => dead (h.liveAt_of_obliged obliged)
  refine ⟨?live, ?held, ?owed, ?quiet⟩
  case live => rw [← Bool.not_eq_true, s.isLive_iff]; exact dead
  case held => rw [← isSome_pendingHold, (s.pendingHold_eq_none n).mpr fun held => unobliged (.inr (.inl held))]; rfl
  case owed => rw [← Bool.not_eq_true, s.isOwed_iff]; exact fun owed => unobliged (.inr (.inr owed))
  case quiet => rw [closes, ((h.records n r hr).1.quiet (by simp [retired])).2]

/-- The first pass resets the transfers of the station and gives it the notices of R43. -/
theorem resetPass_clearPort {s : State} (h : s.Laws [] []) {n : StationNo} {r : StationRecord} (hr : s.record n = some r) :
    resetPass s n r.clearPort = rewound s n r := by
  unfold resetPass rewound
  rw [having_of_record hr, isSome_pendingHold]
  by_cases retired : r.life = .retired
  · obtain ⟨live, held, owed, quiet⟩ := unaffected_of_retired h hr retired
    simp [live, held, owed, noticedIf, retired, StationRecord.clearPort]
  · have live : s.isLive n = true := (s.isLive_iff n).mpr ⟨r, hr, retired⟩
    rw [if_neg retired, live, Bool.true_and, if_pos rfl, noticedIf_holdWithdrawn, noticedIf_dataLost, noticedIf_outboundDone,
      resetNotices, ← notices_clearPort r]
    rfl

/-- The first pass gives a station its first notice exactly if it notifies it and its set was empty. -/
theorem wakes_resetPass {s : State} (h : s.Laws [] []) (n : StationNo) :
    having s (fun r => wakes (resetPass s n) r.clearPort) n = having s (joinsNotified s n) n := by
  cases hr : s.record n with
  | none => rw [having_of_free hr, having_of_free hr]
  | some r =>
    rw [having_of_record hr, having_of_record hr, joinsNotified, wakes, resetPass_clearPort h hr, notices_clearPort]
    by_cases empty : r.notices = NoticeSet.none
    · have changed : (rewound s n r).notices ≠ NoticeSet.none ↔ notified s n r = true := by
        unfold rewound
        split
        · next retired =>
          obtain ⟨_, held, owed, quiet⟩ := unaffected_of_retired h hr retired
          simp [empty, notified, held, owed, quiet]
        · rw [ne_eq, resetNotices_eq_none]
          simp [empty]
      simp [empty, changed]
    · simp [empty]

/-! ### The whole reset -/

theorem noticeList_clearAcceptedPorts (s : State) : s.clearAcceptedPorts.noticeList = s.noticeList :=
  State.forStations_keeps State.noticeList State.clearAcceptedPort (fun _ _ => rfl) stationNumbers s

theorem reaches_clearAcceptedPort : Reaches (fun _ => True) State.clearAcceptedPort (fun _ => StationRecord.clearPort) :=
  reaches_updateRecord notices_clearPort

theorem clearAcceptedPorts_frame (s : State) : s.clearAcceptedPorts = { s with stations := s.clearAcceptedPorts.stations } := by
  have list := noticeList_clearAcceptedPorts s
  have frame := reaches_clearAcceptedPort.frame_pass stationNumbers s
  unfold State.clearAcceptedPorts at list ⊢
  rwa [list] at frame

/-- The state with neither a hold nor a stage. -/
def withoutHolds (s : State) : State := { s with holds := [], privateCopy := none, stage := none }

theorem record_withoutHolds (s : State) (n : StationNo) : (withoutHolds s).record n = s.record n := rfl

theorem released_eq (s : State) : s.released = withoutHolds s.emptyRoute.clearAcceptedPorts := rfl

theorem record_released (s : State) (n : StationNo) : s.released.record n = (s.record n).map StationRecord.clearPort := by
  rw [released_eq, record_withoutHolds, State.record_clearAcceptedPorts]
  rfl

/-- The route, the holds and the stage emptied, with the accepted ports. -/
theorem released_frame (s : State) : s.released =
    { s with stations := s.released.stations, talkSeat := none, lanes := Vector.replicate 4 none, holds := [], privateCopy := none
             stage := none } := by
  have frame := clearAcceptedPorts_frame s.emptyRoute
  rw [released_eq]
  generalize s.emptyRoute.clearAcceptedPorts = t at frame ⊢
  rw [frame]
  rfl

/-- The state between the two passes. -/
def resetPassed (s : State) : State := s.released.forStations stationNumbers (State.resetStation s)

theorem record_resetPassed {s : State} (h : s.Laws [] []) (n : StationNo) :
    (resetPassed s).record n = (s.record n).map (rewound s n) := by
  rw [resetPassed, (reaches_resetStation s).record_all _ trivial, record_released, Option.map_map]
  cases hr : s.record n with
  | none => rfl
  | some r => exact congrArg some (resetPass_clearPort h hr)

theorem noticeList_resetPassed {s : State} (h : s.Laws [] []) : (resetPassed s).noticeList =
    s.noticeList ++ stationNumbers.filter fun n => having s (joinsNotified s n) n := by
  have list : s.released.noticeList = s.noticeList := by rw [released_frame]
  rw [resetPassed, (reaches_resetStation s).noticeList_all _ trivial, list]
  exact congrArg _ (List.filter_congr fun n _ => (having_map (record_released s n) _).trans (wakes_resetPass h n))

theorem resetPassed_frame (s : State) : resetPassed s =
    { s with
      stations := (resetPassed s).stations, noticeList := (resetPassed s).noticeList, talkSeat := none
      lanes := Vector.replicate 4 none, holds := [], privateCopy := none, stage := none } := by
  have frame : resetPassed s = { s.released with stations := (resetPassed s).stations, noticeList := (resetPassed s).noticeList } :=
    (reaches_resetStation s).frame_pass stationNumbers s.released
  rwa [released_frame] at frame

/-- After the first pass no station has an obligation left. -/
theorem not_obliged_resetPassed (s : State) (n : StationNo) : ¬ Obliged (resetPassed s) n := by
  rw [resetPassed_frame]
  rintro (⟨i, p, hp, _⟩ | ⟨k, hk, _⟩ | ⟨g, hg, _⟩)
  · exact absurd (hp.symm.trans (s.place_emptyRoute i)) nofun
  · cases hk
  · cases hg

theorem resetTransfers_eq_pass (s : State) : s.resetTransfers = (resetPassed s).forStations stationNumbers State.reportRelease := rfl

/-- The reset gives every record the value of `reset` (R43). -/
theorem record_resetTransfers {s : State} (h : s.Laws [] []) (n : StationNo) :
    s.resetTransfers.record n = (s.record n).map (reset s n) := by
  rw [resetTransfers_eq_pass, reaches_reportRelease.record_all _ (not_obliged_resetPassed s), record_resetPassed h, Option.map_map]
  exact congrArg (Option.map · (s.record n)) (funext fun r => (reset_eq s n r).symm)

/-- All that the reset can do besides: the route, the holds and the stage. -/
theorem resetTransfers_frame (s : State) : s.resetTransfers =
    { s with
      stations := s.resetTransfers.stations, noticeList := s.resetTransfers.noticeList, talkSeat := none
      lanes := Vector.replicate 4 none, holds := [], privateCopy := none, stage := none } := by
  have frame : s.resetTransfers =
      { resetPassed s with stations := s.resetTransfers.stations, noticeList := s.resetTransfers.noticeList } :=
    reaches_reportRelease.frame_pass stationNumbers (resetPassed s)
  rwa [resetPassed_frame] at frame

/-- The second pass gives a station its first notice exactly if it is RETIRING, its set was empty and the first pass did not notify it. -/
theorem wakes_retire {s : State} (h : s.Laws [] []) (n : StationNo) :
    having (resetPassed s) (wakes fun r => if decide (r.life = .retiring) then r.retire else r) n =
      having s (joinsRetired s n) n := by
  rw [having_map (record_resetPassed h n)]
  cases hr : s.record n with
  | none => rw [having_of_free hr, having_of_free hr]
  | some r =>
    rw [having_of_record hr, having_of_record hr, joinsRetired, wakes]
    by_cases retiring : r.life = .retiring
    · have live : r.life ≠ .retired := by rw [retiring]; decide
      have still : (rewound s n r).life = .retiring ∧ (rewound s n r).notices = resetNotices s n r := by
        rw [rewound, if_neg live, clearPort_live live]
        exact ⟨retiring, rfl⟩
      have given : (rewound s n r).retire.notices ≠ NoticeSet.none := retiredNotices_ne_none _
      simp [still, given, resetNotices_eq_none, retiring]
    · have still : (rewound s n r).life ≠ .retiring := by
        unfold rewound
        split
        · exact retiring
        · next live => rw [clearPort_live live]; exact retiring
      simp [still, retiring]

/-! ### The notice list after the reset -/

theorem eraseDups_of_nodup {α : Type} [BEq α] [LawfulBEq α] {l : List α} (h : l.Nodup) : l.eraseDups = l := by
  induction l with
  | nil => rfl
  | cons a l ih =>
    rw [List.nodup_cons] at h
    have others : l.filter (fun b => !b == a) = l := List.filter_eq_self.mpr fun b hb => by
      simpa using fun e : b = a => h.1 (e ▸ hb)
    rw [List.eraseDups_cons, others, ih h.2]

/-- Two selections from a list without repeats, one behind the other and each element kept once. -/
theorem eraseDups_filter_append {α : Type} [BEq α] [LawfulBEq α] {l : List α} (h : l.Nodup) (p q : α → Bool) :
    (l.filter p ++ l.filter q).eraseDups = l.filter p ++ l.filter (fun a => q a && !p a) := by
  have rest : (l.filter q).removeAll (l.filter p) = l.filter (fun a => q a && !p a) := by
    rw [List.removeAll, List.filter_filter]
    refine List.filter_congr fun a ha => ?_
    simp [ha, Bool.and_comm]
  rw [List.eraseDups_append, rest, eraseDups_of_nodup (h.filter _), eraseDups_of_nodup (h.filter _)]

theorem quietOnes_filter (s : State) (ns : List StationNo) (p : StationNo → StationRecord → Bool) :
    quietOnes s (ns.filter fun n => having s (p n) n) = ns.filter fun n => having s (fun r => p n r && decide (r.notices = NoticeSet.none)) n := by
  rw [quietOnes, List.filter_filter]
  refine List.filter_congr fun n _ => ?_
  unfold having
  cases s.record n with
  | none => rfl
  | some r => exact Bool.and_comm _ _

theorem resetNotified_eq (s : State) : resetNotified s = stationNumbers.filter fun n => having s (notified s n) n := by
  rw [resetNotified, List.filter_filter]
  refine List.filter_congr fun n _ => ?_
  unfold having
  cases s.record n with
  | none => simp
  | some r => exact Bool.and_true _

/-- The stations that join are all named once: those notified first, then the others that are retired. -/
theorem resetList_eq (s : State) : resetList s = s.noticeList ++ (stationNumbers.filter fun n => having s (joinsNotified s n) n) ++
    stationNumbers.filter fun n => having s (joinsRetired s n) n := by
  have late (n : StationNo) :
      (having s (fun r => decide (r.life = .retiring) && decide (r.notices = NoticeSet.none)) n && !having s (joinsNotified s n) n) =
        having s (joinsRetired s n) n := by
    unfold having joinsNotified joinsRetired
    cases s.record n with
    | none => rfl
    | some r => by_cases empty : r.notices = NoticeSet.none <;> simp [empty]
  have nodup : stationNumbers.Nodup := List.nodup_finRange 32
  have both : quietOnes s (resetNotified s ++ resetRetired s) = quietOnes s (resetNotified s) ++ quietOnes s (resetRetired s) :=
    List.filter_append ..
  have first : quietOnes s (resetNotified s) = stationNumbers.filter fun n => having s (joinsNotified s n) n := by
    rw [resetNotified_eq]
    exact quietOnes_filter s stationNumbers (notified s)
  have second : quietOnes s (resetRetired s) = _ := quietOnes_filter s stationNumbers fun _ r => decide (r.life = .retiring)
  rw [resetList, both, first, second, eraseDups_filter_append nodup, List.append_assoc]
  simp only [late]

/-- The stations join the notice list as they are notified, and then as they are retired (R43). -/
theorem noticeList_resetTransfers {s : State} (h : s.Laws [] []) : s.resetTransfers.noticeList = resetList s := by
  rw [resetTransfers_eq_pass, reaches_reportRelease.noticeList_all _ (not_obliged_resetPassed s), noticeList_resetPassed h, resetList_eq]
  simp only [wakes_retire h]

/-! ### The frame and the commands -/

/-- A RESET LINK frame is taken at its end, whether or not it began during the LBUSY drive (R33, R44). -/
theorem resetLink_taken {s : State} {busy : Bool} (on : s.attached = true) (receiving : s.reception = .receiving busy) :
    exec .resetLink s = .next (ended s).linkResetSeen.resetTransfers := by
  show Host.Outcome.next (s.frameEnds (some .resetLink)) = _
  simp [State.frameEnds, State.atRunEnd, on, receiving, State.judge]
  rfl

/-- Settles O33: the reset of the transfers, with LINK_RESET_SEEN set at the frame's end. -/
theorem resetLinkTaken : Obligations.ResetLinkTaken := by
  intro s busy inv on receiving
  have laws : (ended s).linkResetSeen.Laws [] [] := inv.laws.retouch (.of_frame ⟨rfl, rfl, rfl, rfl, rfl⟩ rfl rfl rfl rfl)
  exact ⟨_, resetLink_taken on receiving, record_resetTransfers laws, noticeList_resetTransfers laws, resetTransfers_frame _⟩

/-- DETACH on one record (R42). -/
theorem reaches_detachMode : Reaches (fun _ => True) State.detachMode (fun _ => StationRecord.detach) :=
  reaches_updateRecord fun r => by split <;> rfl

/-- The row of DETACH completes the command. -/
theorem detachRow {s : State} (h : Ready s) : exec .detach s = .next (detachCommand s.params (s.accept 0x02)).finish :=
  congrArg Host.Outcome.next (Ready.issue h 0x02 detachCommand)

theorem attachRow {s : State} (h : Ready s) : exec .attach s = .next (attachCommand s.params (s.accept 0x01)).finish :=
  congrArg Host.Outcome.next (Ready.issue h 0x01 attachCommand)

/-- The link interface DETACHED, its replies and the frame in reception abandoned, and both mode flags clear (R42). -/
def unlinked (s : State) : State :=
  { s with attached := false, reception := .awaitingGap, replyWaiting := none, replySending := none, remoteEnable := false, lockout := false }

theorem detachCommand_attached (p : ParamBlock) {s : State} (on : s.attached = true) : detachCommand p s =
    .plain (unlinked (s.resetTransfers.forStations stationNumbers State.detachMode)) .ok := by
  rw [detachCommand, if_pos on]
  rfl

/-- The state that DETACH leaves, by the records and the notice list after its passes. -/
theorem finish_detach {s t : State} (frame : t =
      { s.accept 0x02 with
        stations := t.stations, noticeList := t.noticeList, talkSeat := none, lanes := Vector.replicate 4 none, holds := []
        privateCopy := none, stage := none }) :
    (CommandOutcome.plain (unlinked t) .ok).finish =
      { okay s s with
        stations := t.stations, noticeList := t.noticeList, talkSeat := none, lanes := Vector.replicate 4 none, holds := []
        privateCopy := none, stage := none, attached := false, reception := .awaitingGap, replyWaiting := none
        replySending := none, remoteEnable := false, lockout := false } := by
  rw [frame]
  rfl

/-- The reset of the transfers and the modes set LOCAL, which no notice follows (R42, R143). -/
theorem detachPasses {s : State} (h : s.Laws [] []) : ∃ t, s.resetTransfers.forStations stationNumbers State.detachMode = t ∧
    (∀ n, t.record n = (s.record n).map fun r => (reset s n r).detach) ∧ t.noticeList = resetList s ∧
    t = { s with
      stations := t.stations, noticeList := t.noticeList, talkSeat := none, lanes := Vector.replicate 4 none, holds := []
      privateCopy := none, stage := none } := by
  have record := record_resetTransfers h
  have list := noticeList_resetTransfers h
  have frame := resetTransfers_frame s
  generalize s.resetTransfers = t at record list frame
  have passFrame := reaches_detachMode.frame_pass stationNumbers t
  refine ⟨_, rfl, fun n => ?_, ?_, ?_⟩
  · rw [reaches_detachMode.record_all t trivial, record, Option.map_map]
    rfl
  · rw [State.forStations_keeps State.noticeList State.detachMode (fun _ _ => rfl), list]
  · generalize t.forStations stationNumbers State.detachMode = u at passFrame
    rw [passFrame, frame]

/-- Settles O34: the reset of the transfers, then the modes of the ONLINE stations. -/
theorem detachDone : Obligations.DetachDone := by
  refine ⟨fun s inv ready on => ?_, fun s ready off => ?_⟩
  · have laws : (s.accept 0x02).Laws [] [] := inv.laws.retouch (.of_frame ⟨rfl, rfl, rfl, rfl, rfl⟩ rfl rfl rfl rfl)
    obtain ⟨t, passes, record, list, frame⟩ := detachPasses laws
    have row := detachRow ready
    rw [detachCommand_attached (s := s.accept 0x02) _ on, passes, finish_detach frame] at row
    exact ⟨_, row, record, list, rfl⟩
  · rw [detachRow ready, detachCommand, if_neg (by rw [show (s.accept 0x02).attached = false from off]; decide)]
    rfl

/-- Settles O35: the completed command's outcome by the attach state it finds. -/
theorem attachDone : Obligations.AttachDone := by
  refine ⟨fun s ready off => ?_, fun s ready on => ?_⟩
  · rw [attachRow ready, attachCommand, if_neg (by rw [show (s.accept 0x01).attached = false from off]; decide)]
    rfl
  · rw [attachRow ready, attachCommand, if_pos (show (s.accept 0x01).attached = true from on)]
    rfl

end Sys2Proof.Proofs

/-! ## Frames and runs of characters as their rules state them -/

namespace Sys2Proof.Proofs

-- One theorem after the other: each thread of its own would take a stack.
set_option Elab.async false

open Sys2Proof Sys2Proof.Machine Sys2Proof.Claims

/-! ### What a frame row does -/

/-- The controller frame that a row's contents are, if they suit its kind (R30). -/
def rowFrame : Instr → Option ControllerFrame
  | .route t ls => routeFrame t ls
  | .data e b => dataFrame e b
  | .fetch => some .fetch
  | .poll a => pollFrame a
  | .clear scope => some (.clear scope)
  | .trigger => some .trigger
  | .remote on => some (.remote on)
  | .lockout => some .lockout
  | .localFrame => some .localFrame
  | .resetLink => some .resetLink
  | .privateFrame c b => privateLinkFrame c b
  | _ => none

/-- The row of a controller frame is the end of that frame (R32 to R34). -/
theorem exec_of_rowFrame {c : Instr} {f : ControllerFrame} (h : rowFrame c = some f) (s : State) :
    exec c s = .next (s.frameEnds (some f)) := by
  rw [← h]
  cases c with
  | route | data | fetch | poll | clear | trigger | remote | lockout | localFrame | resetLink | privateFrame => rfl
  | _ => cases h

theorem routeFrame_some {t : AddressBytes} {ls : List AddressBytes} {f : ControllerFrame} (h : routeFrame t ls = some f) :
    ls.length ≤ 8 ∧ f ≠ .resetLink := by
  unfold routeFrame at h
  split at h
  · next few =>
    split at h
    · exact ⟨few, Option.some.inj h ▸ nofun⟩
    · cases h
  · cases h

theorem dataFrame_some {e : Bool} {b : List Byte} {f : ControllerFrame} (h : dataFrame e b = some f) : b.length ≤ 32 ∧ f ≠ .resetLink := by
  unfold dataFrame at h
  split at h
  · next fits => exact ⟨fits.1, Option.some.inj h ▸ nofun⟩
  · cases h

theorem pollFrame_some {a : AddressBytes} {f : ControllerFrame} (h : pollFrame a = some f) : f ≠ .resetLink := by
  unfold pollFrame at h
  split at h
  · exact Option.some.inj h ▸ nofun
  · cases h

theorem privateLinkFrame_some {c : BitVec 6} {b : List Byte} {f : ControllerFrame} (h : privateLinkFrame c b = some f) :
    b.length ≤ 12 ∧ f ≠ .resetLink := by
  unfold privateLinkFrame at h
  split at h
  · next short => exact ⟨short, Option.some.inj h ▸ nofun⟩
  · cases h

/-- The row of a controller frame other than RESET LINK. -/
theorem rowFrame_of_controllerFrame {c : Instr} (h : controllerFrame c = true) : ∃ f, rowFrame c = some f ∧ f ≠ .resetLink := by
  cases c with
  | route t ls =>
    obtain ⟨f, hf⟩ := Option.isSome_iff_exists.mp h
    exact ⟨f, hf, (routeFrame_some hf).2⟩
  | data e b =>
    obtain ⟨f, hf⟩ := Option.isSome_iff_exists.mp h
    exact ⟨f, hf, (dataFrame_some hf).2⟩
  | poll a =>
    obtain ⟨f, hf⟩ := Option.isSome_iff_exists.mp h
    exact ⟨f, hf, pollFrame_some hf⟩
  | privateFrame p b =>
    obtain ⟨f, hf⟩ := Option.isSome_iff_exists.mp h
    exact ⟨f, hf, (privateLinkFrame_some hf).2⟩
  | fetch | clear | trigger | remote | lockout | localFrame => exact ⟨_, rfl, nofun⟩
  | _ => cases h

/-- What a run of characters that began after an idle gap does at its end, by its shape (R26, R32). -/
def judgeRun (cs : List LinkChar) (s : State) : State :=
  match runShape cs with
  | .damaged => s.damagedRun
  | .frame type body check after => (s.judgeBytes type body check).trailingRun after

theorem exec_afterIdle (cs : List LinkChar) (s : State) : exec (.frameDiscarded (.afterIdle cs)) s = .next (s.atRunEnd (judgeRun cs)) := rfl

theorem exec_afterCheck (cs : List LinkChar) (s : State) :
    exec (.frameDiscarded (.afterCheck cs)) s = .next (s.atRunEnd State.damagedRun) := rfl

/-- Every row at which a run of characters ends does what it does once its frame in reception is there (R26, R40, R41). -/
theorem exec_of_runEnd {c : Instr} (h : runEnd c = true) : ∃ f : State → State, ∀ s, exec c s = .next (s.atRunEnd f) := by
  by_cases controller : controllerFrame c = true
  · obtain ⟨f, hf, _⟩ := rowFrame_of_controllerFrame controller
    exact ⟨_, exec_of_rowFrame hf⟩
  · cases c with
    | resetLink | responderFrame => exact ⟨_, fun _ => rfl⟩
    | frameDiscarded run =>
      cases run with
      | afterIdle cs => exact ⟨_, exec_afterIdle cs⟩
      | afterCheck cs => exact ⟨_, exec_afterCheck cs⟩
    | _ => exact absurd h controller

/-! ### The end of a run -/

theorem atRunEnd_receiving {s : State} {busy : Bool} (on : s.attached = true) (receiving : s.reception = .receiving busy) (f : State → State) :
    s.atRunEnd f = f s := by
  simp [State.atRunEnd, on, receiving]

theorem atRunEnd_awaiting {s : State} (gap : s.reception = .awaitingGap) (f : State → State) : s.atRunEnd f = s := by
  simp [State.atRunEnd, gap]

/-- What follows the end of a run follows it in the same step. -/
theorem atRunEnd_comp {s : State} (on : s.attached = true) (heard : s.reception ≠ .awaitingGap) (f g : State → State) :
    s.atRunEnd (fun t => g (f t)) = g (s.atRunEnd f) := by
  cases h : s.reception with
  | awaitingGap => exact absurd h heard
  | ready => rw [State.atRunEnd_ready s _ on h, State.atRunEnd_ready s _ on h]
  | receiving busy => rw [atRunEnd_receiving on h, atRunEnd_receiving on h]

/-- A frame discarded at reception is reported as a link fault, the first since the flag was clear being kept (R32). -/
theorem linkFault_frameOver (s : State) (k : FaultKind) : s.frameOver.linkFault k = faulted s k := by
  unfold State.linkFault faulted
  cases h : s.device.linkFault with
  | false => simp [State.frameOver, h]
  | true =>
    have same : { s.device with linkFault := true } = s.device := by rw [← h]
    rw [same]
    simp [State.frameOver, h]

theorem damagedRun_eq (s : State) : s.damagedRun = faulted s .damaged := linkFault_frameOver s .damaged

/-- Characters behind a check byte are one damaged frame, whose start bit abandons a waiting reply (R26, R36). -/
theorem trailingRun_eq (s : State) {more : List LinkChar} (h : more ≠ []) :
    s.trailingRun more = faulted { s with replyWaiting := none } .damaged := by
  rw [State.trailingRun, if_neg h, damagedRun_eq]
  rfl

/-- Settles O37: a responder frame leaves only the reception, a frame begun during the LBUSY drive is a busy violation, and a DETACHED part
has no end of a run. -/
theorem framesNotTaken : Obligations.FramesNotTaken := by
  refine ⟨fun s isStatus body busy on receiving short => ?_, fun c s controller on receiving => ?_, fun c s off row => ?_⟩
  · show Host.Outcome.next (s.atRunEnd _) = _
    rw [atRunEnd_receiving on receiving, if_pos short]
    rfl
  · obtain ⟨f, hf, other⟩ := rowFrame_of_controllerFrame controller
    rw [exec_of_rowFrame hf, State.frameEnds, atRunEnd_receiving on receiving, State.judge, ← linkFault_frameOver]
    simp [State.beganBusy, receiving, other]
  · rcases row with row | rfl | rfl
    · obtain ⟨f, hf⟩ := exec_of_runEnd row
      rw [hf, State.atRunEnd_detached s f off]
    · show execFrameStart s = _
      simp [execFrameStart, off]
    · show execIdleGap s = _
      simp [execIdleGap, off]

/-! ### The line -/

theorem frameStart_ready {s : State} (on : s.attached = true) (ready : s.reception = .ready) : exec .frameStart s = .next s.startBit := by
  show execFrameStart s = _
  simp [execFrameStart, on, ready]

/-- The levels of one of the characters on the line, each of ten bit times (R25). -/
theorem levels_getD (bs : List Byte) (i k : Nat) (hi : i < bs.length) (hk : k < 10) :
    (bs.map characterLevels).flatten.getD (10 * i + k) true = (characterLevels bs[i]).getD k true := by
  induction bs generalizing i with
  | nil => cases hi
  | cons b bs ih =>
    rw [List.map_cons, List.flatten_cons]
    cases i with
    | zero => rw [List.getD_append _ _ _ _ (by rw [characterLevels_length]; omega), Nat.mul_zero, Nat.zero_add]; rfl
    | succ i =>
      rw [List.getD_append_right _ _ _ _ (by rw [characterLevels_length]; omega), characterLevels_length,
        show 10 * (i + 1) + k - 10 = 10 * i + k by omega]
      exact ih i (Nat.lt_of_succ_lt_succ hi)

/-- A low start bit, the eight data bits least significant first, and a high stop bit (R25). -/
theorem characterLevels_getD (b : Byte) : (characterLevels b).getD 0 true = false ∧
    (∀ j, j < 8 → (characterLevels b).getD (1 + j) true = b.getLsbD j) ∧ (characterLevels b).getD 9 true = true := by
  refine ⟨rfl, fun j hj => ?_, rfl⟩
  rw [characterLevels, List.cons_append, Nat.add_comm, List.getD_cons_succ, List.getD_append _ _ _ _ (by simpa using hj)]
  simp [List.getD, hj]

/-- Settles O38: each row of the line by the state of the receiver, and LTXD by the character and the place in it. -/
theorem lineEvents : Obligations.LineEvents := by
  refine ⟨?startReady, ?startReceiving, ?gapAwaiting, ?gapReady, ?gapReceiving, ?unheard, ?ownStartBit, ?send, ?nothingToSend, ?sent,
    ?enable, ?rests, ?levels⟩
  case startReady => exact fun s on ready => frameStart_ready on ready
  case startReceiving =>
    intro s busy on receiving
    show execFrameStart s = _
    simp only [execFrameStart, on, receiving, if_true, damagedRun_eq]
    rfl
  case gapAwaiting =>
    intro s on awaiting
    show execIdleGap s = _
    simp [execIdleGap, on, awaiting]
  case gapReady =>
    intro s on ready
    show execIdleGap s = _
    simp [execIdleGap, ready]
  case gapReceiving =>
    intro s busy on receiving
    show execIdleGap s = _
    simp [execIdleGap, on, receiving, damagedRun_eq]
  case unheard =>
    rintro c s on awaiting (row | rfl)
    · obtain ⟨f, hf⟩ := exec_of_runEnd row
      rw [hf, atRunEnd_awaiting awaiting]
    · show execFrameStart s = _
      simp [execFrameStart, awaiting]
  case ownStartBit =>
    intro c s u on ready row begun
    obtain ⟨f, hf⟩ := exec_of_runEnd row
    obtain rfl := Host.Outcome.next.inj ((frameStart_ready on ready).symm.trans begun)
    rw [hf, hf, State.atRunEnd_ready s f on ready, atRunEnd_receiving (s := s.startBit) on rfl]
  case send =>
    intro s f waiting still
    show execSendReply s = _
    simp [execSendReply, waiting, still]
  case nothingToSend =>
    intro s none
    show execSendReply s = _
    simp [execSendReply, none]
  case sent => exact fun s => rfl
  case enable => exact fun s => Option.isSome_iff_ne_none
  case rests => exact fun s k off => s.ltxd_rests k (Option.isSome_eq_false_iff.mp off |> Option.isNone_iff_eq_none.mp)
  case levels =>
    intro s f sending
    have level (k : Nat) : s.ltxd k = f.levels.getD k true := by rw [State.ltxd, sending]
    refine ⟨fun i hi => ?_, fun k hk => ?_⟩
    · have bit (k : Nat) (hk : k < 10) := (level (10 * i + k)).trans (levels_getD f.bytes i k hi hk)
      obtain ⟨start, data, stop⟩ := characterLevels_getD f.bytes[i]
      refine ⟨(bit 0 (by decide)).trans start, fun j hj => ?_, (bit 9 (by decide)).trans stop⟩
      rw [Nat.add_assoc]
      exact (bit (1 + j) (by omega)).trans (data j hj)
    · rw [level, List.getD_eq_default _ _ (by rw [f.levels_length]; exact hk)]

/-! ### The shape of a run -/

/-- The characters of a frame with the layout of section 2.3 have its shape, whatever follows the check byte (R26). -/
theorem runShape_chars (type check : Byte) {body : List Byte} (short : body.length ≤ 40) (after : List LinkChar) :
    runShape (chars (type :: BitVec.ofNat 8 body.length :: body ++ [check]) ++ after) = .frame type body check after := by
  have length : (BitVec.ofNat 8 body.length).toNat = body.length := toNat_ofNat_byte _ (by omega)
  have layout : chars (type :: BitVec.ofNat 8 body.length :: body ++ [check]) ++ after =
      ⟨type, true⟩ :: ⟨BitVec.ofNat 8 body.length, true⟩ :: (chars body ++ ⟨check, true⟩ :: after) := by simp [chars]
  have whole : (chars body ++ ⟨check, true⟩ :: after).take (body.length + 1) = chars body ++ [⟨check, true⟩] := by
    simp [chars, List.take_append]
  have behind : (chars body ++ ⟨check, true⟩ :: after).drop (body.length + 1) = after := by simp [chars, List.drop_append]
  have own : (chars body ++ ⟨check, true⟩ :: after).take body.length = chars body := by
    rw [List.take_append_of_le_length] <;> simp [chars]
  have last : (chars body ++ ⟨check, true⟩ :: after).drop body.length = ⟨check, true⟩ :: after := by simp [chars]
  rw [layout, runShape]
  simp only [length, whole, behind, own, last]
  simp [short, chars, Function.comp_def]

/-- A run without a type and a length is damaged. -/
theorem runShape_of_length {cs : List LinkChar} (h : cs.length < 3) : runShape cs = .damaged := by
  match cs, h with
  | [], _ => rfl
  | [_], _ => rfl
  | [_, _], _ => simp [runShape]

/-- So is one with a length above 40, or with fewer characters behind it than the body and the check byte take. -/
theorem runShape_of_count {t l : LinkChar} {rest : List LinkChar} (h : 40 < l.byte.toNat ∨ rest.length ≤ l.byte.toNat) :
    runShape (t :: l :: rest) = .damaged := by
  rw [runShape]
  split
  · next c there =>
    have present : l.byte.toNat < rest.length := by
      by_contra few
      rw [List.drop_eq_nil_of_le (Nat.not_lt.mp few)] at there
      cases there
    exact if_neg fun good => by omega
  · rfl

/-- So is one with a low stop bit in the frame. -/
theorem runShape_of_stopLow {t l : LinkChar} {rest : List LinkChar}
    (h : ∃ x ∈ t :: l :: rest.take (l.byte.toNat + 1), x.stopHigh = false) : runShape (t :: l :: rest) = .damaged := by
  obtain ⟨x, hx, low⟩ := h
  rw [runShape]
  split
  · exact if_neg fun good => by
      rw [List.all_eq_true.mp good.2 x hx] at low
      cases low
  · rfl

/-! ### The end of a run by its shape -/

theorem judgeRun_damaged {cs : List LinkChar} (h : runShape cs = .damaged) (s : State) : judgeRun cs s = faulted s .damaged := by
  rw [judgeRun, h]
  exact damagedRun_eq s

theorem judgeRun_chars (type check : Byte) {body : List Byte} (short : body.length ≤ 40) (after : List LinkChar) (s : State) :
    judgeRun (chars (type :: BitVec.ofNat 8 body.length :: body ++ [check]) ++ after) s =
      (s.judgeBytes type body check).trailingRun after := by
  rw [judgeRun, runShape_chars type check short after]

/-- A run of good characters that ends with its check byte is judged by its bytes. -/
theorem judgeRun_frame (type check : Byte) {body : List Byte} (short : body.length ≤ 40) (s : State) :
    judgeRun (chars (type :: BitVec.ofNat 8 body.length :: body ++ [check])) s = s.judgeBytes type body check := by
  have run := judgeRun_chars type check short [] s
  rwa [List.append_nil] at run

theorem judgeBytes_wrongCheck (s : State) (type : Byte) (body : List Byte) (check : Byte)
    (h : check ≠ linkCheck (type :: BitVec.ofNat 8 body.length :: body)) : s.judgeBytes type body check = faulted s .damaged := by
  rw [State.judgeBytes, if_pos h, damagedRun_eq]

/-- The table of frame kinds (R29). -/
theorem typeKnown_iff (type : Byte) : typeKnown type = true ↔ KindKnown type := by
  simp only [typeKnown, KindKnown, Bool.or_eq_true, decide_eq_true_eq]

/-- A run that carries the check of R27, by the tests of R32 that remain: the type and the body. -/
theorem judgeRun_framed (type : Byte) {body : List Byte} (short : body.length ≤ 40) (s : State) :
    (¬ KindKnown type → judgeRun (chars (framed type body)) s = faulted s .unknownType) ∧
    (KindKnown type → judgeRun (chars (framed type body)) s =
      if responderType type then s.frameOver else s.judge (parseFrame type body)) := by
  have run := judgeRun_frame type (linkCheck (type :: BitVec.ofNat 8 body.length :: body)) short s
  rw [State.judgeBytes, if_neg (by simp)] at run
  refine ⟨fun unknown => run.trans ?_, fun known => run.trans ?_⟩
  · rw [← typeKnown_iff, Bool.not_eq_true] at unknown
    rw [unknown]
    exact linkFault_frameOver s .unknownType
  · rw [(typeKnown_iff type).mpr known]
    rfl

/-! ### Frames by their bytes -/

/-- The addresses of a ROUTE body as bytes. -/
def addressBytes (ls : List AddressBytes) : List Byte := (ls.map fun a => [a.unitByte, a.portByte]).flatten

theorem addressPairs_addressBytes (ls : List AddressBytes) : addressPairs (addressBytes ls) = some ls := by
  induction ls with
  | nil => rfl
  | cons a ls ih =>
    show addressPairs (a.unitByte :: a.portByte :: addressBytes ls) = _
    rw [addressPairs, ih]

theorem addressPairs_some {bytes : List Byte} {ls : List AddressBytes} (h : addressPairs bytes = some ls) : addressBytes ls = bytes := by
  induction bytes using addressPairs.induct generalizing ls with
  | case1 => rw [addressPairs] at h; obtain rfl := Option.some.inj h; rfl
  | case2 => cases h
  | case3 u p rest none ih => rw [addressPairs, none] at h; cases h
  | case4 u p rest as some ih =>
    rw [addressPairs, some] at h
    obtain rfl := Option.some.inj h
    rw [← ih some]
    rfl

theorem length_addressBytes (ls : List AddressBytes) : (addressBytes ls).length = 2 * ls.length := by
  induction ls with
  | nil => rfl
  | cons a ls ih =>
    show (addressBytes ls).length + 1 + 1 = _
    rw [ih, List.length_cons]
    omega

/-- The types of PRIVATE frames carry their code (section 2.3). -/
theorem privateType (c : BitVec 6) : 0x80 ≤ (0x80 + c.setWidth 8 : Byte).toNat ∧ (0x80 + c.setWidth 8 : Byte).toNat ≤ 0xBF ∧
    (0x80 + c.setWidth 8 : Byte).setWidth 6 = c := by
  revert c
  decide

theorem privateType_setWidth {type : Byte} (low : 0x80 ≤ type.toNat) (high : type.toNat ≤ 0xBF) :
    0x80 + (type.setWidth 6).setWidth 8 = type := by
  bv_omega

theorem parseFrame_private {type : Byte} (low : 0x80 ≤ type.toNat) (high : type.toNat ≤ 0xBF) (body : List Byte) :
    parseFrame type body = privateLinkFrame (type.setWidth 6) body := by
  have other (k : Byte) (hk : k.toNat < 0x80) : type ≠ k := by
    rintro rfl
    omega
  unfold parseFrame
  rw [if_neg (other _ (by decide)), if_neg (other _ (by decide)), if_neg (other _ (by decide)), if_neg (other _ (by decide)),
    if_neg (other _ (by decide)), if_neg (other _ (by decide)), if_neg (other _ (by decide)), if_neg (other _ (by decide)),
    if_neg (other _ (by decide)), if_neg (other _ (by decide)), if_neg (other _ (by decide)), if_pos ⟨low, high⟩]

/-- A frame row's bytes are a type of a controller frame with a body that the parser reads as the row's contents (R30). -/
theorem parseFrame_wire {c : Instr} {type : Byte} {body : List Byte} {f : ControllerFrame} (bytes : wire c = some (type, body))
    (row : rowFrame c = some f) :
    parseFrame type body = some f ∧ body.length ≤ 40 ∧ KindKnown type ∧ responderType type = false := by
  rw [← row]
  cases c with
  | route t ls =>
    obtain ⟨rfl, rfl⟩ := Prod.mk.inj (Option.some.inj bytes)
    obtain ⟨few, _⟩ := routeFrame_some row
    refine ⟨?_, ?_, .inl (by decide), rfl⟩
    · show routeBody (t.unitByte :: t.portByte :: BitVec.ofNat 8 ls.length :: addressBytes ls) = routeFrame t ls
      rw [routeBody, addressPairs_addressBytes, toNat_ofNat_byte _ (by omega)]
      exact if_pos rfl
    · show (addressBytes ls).length + 1 + 1 + 1 ≤ 40
      rw [length_addressBytes]
      omega
  | data e b =>
    obtain ⟨short, _⟩ := dataFrame_some row
    cases e with
    | false =>
      obtain ⟨rfl, rfl⟩ := Prod.mk.inj (Option.some.inj bytes)
      exact ⟨rfl, by omega, .inl (by decide), rfl⟩
    | true =>
      obtain ⟨rfl, rfl⟩ := Prod.mk.inj (Option.some.inj bytes)
      exact ⟨rfl, by omega, .inl (by decide), rfl⟩
  | privateFrame p b =>
    obtain ⟨rfl, rfl⟩ := Prod.mk.inj (Option.some.inj bytes)
    obtain ⟨short, _⟩ := privateLinkFrame_some row
    obtain ⟨low, high, code⟩ := privateType p
    refine ⟨by rw [parseFrame_private low high, code]; rfl, by omega, .inr ⟨low, high⟩, ?_⟩
    rw [responderType, decide_eq_false_iff_not]
    rintro (e | e) <;> rw [e] at low <;> exact absurd low (by decide)
  | clear scope =>
    cases scope <;>
      · obtain ⟨rfl, rfl⟩ := Prod.mk.inj (Option.some.inj bytes)
        exact ⟨rfl, by decide, .inl (by decide), rfl⟩
  | remote on =>
    cases on <;>
      · obtain ⟨rfl, rfl⟩ := Prod.mk.inj (Option.some.inj bytes)
        exact ⟨rfl, by decide, .inl (by decide), rfl⟩
  | poll | fetch | trigger | lockout | localFrame | resetLink =>
    obtain ⟨rfl, rfl⟩ := Prod.mk.inj (Option.some.inj bytes)
    exact ⟨rfl, by simp, .inl (by decide), rfl⟩
  | _ => cases row

theorem responderType_known {isStatus : Bool} {type : Byte} {body bytes : List Byte}
    (h : wire (.responderFrame isStatus bytes) = some (type, body)) : bytes = body ∧ KindKnown type ∧ responderType type = true := by
  cases isStatus <;>
    · obtain ⟨rfl, rfl⟩ := Prod.mk.inj (Option.some.inj h)
      exact ⟨rfl, .inl (by decide), rfl⟩

/-- A well-formed frame row is the row of a controller frame or of a responder frame. -/
theorem rowFrame_of_wire {c : Instr} {type : Byte} {body : List Byte} (bytes : wire c = some (type, body)) (wf : c.wellFormed = true) :
    (∃ f, rowFrame c = some f) ∨ ∃ isStatus b, c = .responderFrame isStatus b ∧ b.length ≤ 40 := by
  cases c with
  | route | data | poll | privateFrame => exact .inl (Option.isSome_iff_exists.mp wf)
  | fetch | clear | trigger | remote | lockout | localFrame | resetLink => exact .inl ⟨_, rfl⟩
  | responderFrame isStatus b => exact .inr ⟨isStatus, b, rfl, of_decide_eq_true wf⟩
  | _ => cases bytes

/-- Settles O11: the run has the shape of a frame with the row's type and body, passes the check, and is judged as the row is. -/
theorem rawFramesAreTheirRows : Obligations.RawFramesAreTheirRows := by
  intro c type body s bytes wf
  rw [exec_afterIdle]
  rcases rowFrame_of_wire bytes wf with ⟨f, row⟩ | ⟨isStatus, b, rfl, short⟩
  · obtain ⟨parsed, short, known, other⟩ := parseFrame_wire bytes row
    have judged : judgeRun (chars (framed type body)) = fun t => t.judge (some f) := funext fun t => by
      rw [(judgeRun_framed type short t).2 known, other, parsed]
      rfl
    rw [judged, exec_of_rowFrame row, State.frameEnds]
  · obtain ⟨rfl, known, responder⟩ := responderType_known bytes
    have judged : judgeRun (chars (framed type b)) = fun t => if b.length ≤ 40 then t.frameOver else t.damagedRun := funext fun t => by
      rw [(judgeRun_framed type short t).2 known, responder, if_pos rfl, if_pos short]
    rw [judged]
    rfl

/-! ### Faults of reception -/

/-- A body of a kind without one is empty. -/
theorem bodiless_some {body : List Byte} {f g : ControllerFrame} (h : bodiless body f = some g) : body = [] := by
  unfold bodiless at h
  split at h
  · assumption
  · cases h

theorem routeBody_some {body : List Byte} {f : ControllerFrame} (h : routeBody body = some f) :
    ∃ t ls, routeFrame t ls = some f ∧ wire (.route t ls) = some (0x10, body) := by
  unfold routeBody at h
  split at h
  · next u p n rest =>
    split at h
    · cases h
    · next ls pairs =>
      split at h
      · next count =>
        refine ⟨⟨u, p⟩, ls, h, ?_⟩
        show some ((0x10 : Byte), u :: p :: BitVec.ofNat 8 ls.length :: addressBytes ls) = _
        rw [addressPairs_some pairs, count, BitVec.ofNat_toNat, BitVec.setWidth_eq]
      · cases h
  · cases h

theorem of_ite_eq_some {c : Prop} [Decidable c] {α : Type} {x y : Option α} {a : α} {P : Prop} (hx : c → x = some a → P)
    (hy : y = some a → P) (e : (if c then x else y) = some a) : P := by
  split at e
  · next hc => exact hx hc e
  · exact hy e

/-- A body of one byte that is 0 or 1. -/
theorem oneByte_some {b : Byte} {f g k : ControllerFrame} {P : Prop} (zero : b = 0 → P) (one : b = 1 → P)
    (h : (if b = 0 then some f else if b = 1 then some g else none) = some k) : P :=
  of_ite_eq_some (fun e _ => zero e) (of_ite_eq_some (fun e _ => one e) fun e => by cases e) h

/-- Every body the parser reads as a controller frame is that of a well-formed row (R29, R30). -/
theorem wire_of_parseFrame {type : Byte} {body : List Byte} {f : ControllerFrame} (h : parseFrame type body = some f) :
    ∃ c : Instr, c.wellFormed = true ∧ wire c = some (type, body) := by
  have refused (e : (none : Option ControllerFrame) = some f) : ∃ c : Instr, c.wellFormed = true ∧ wire c = some (type, body) := by
    cases e
  have bare {k : Byte} {g : ControllerFrame} {c : Instr} (wf : c.wellFormed = true) (bytes : wire c = some (k, [])) (e : type = k)
      (h : bodiless body g = some f) : ∃ c : Instr, c.wellFormed = true ∧ wire c = some (type, body) :=
    ⟨c, wf, by rw [bytes, e, bodiless_some h]⟩
  revert h
  unfold parseFrame
  refine of_ite_eq_some ?route <| of_ite_eq_some ?part <| of_ite_eq_some ?last <| of_ite_eq_some (bare (c := .fetch) rfl rfl) <|
    of_ite_eq_some ?poll <| of_ite_eq_some ?clear <| of_ite_eq_some (bare (c := .trigger) rfl rfl) <| of_ite_eq_some ?remote <|
    of_ite_eq_some (bare (c := .lockout) rfl rfl) <| of_ite_eq_some (bare (c := .localFrame) rfl rfl) <|
    of_ite_eq_some (bare (c := .resetLink) rfl rfl) <| of_ite_eq_some ?coded refused
  case route =>
    rintro rfl h
    obtain ⟨t, ls, row, bytes⟩ := routeBody_some h
    exact ⟨.route t ls, Option.isSome_of_eq_some row, bytes⟩
  case part =>
    rintro rfl h
    exact ⟨.data false body, Option.isSome_of_eq_some h, rfl⟩
  case last =>
    rintro rfl h
    exact ⟨.data true body, Option.isSome_of_eq_some h, rfl⟩
  case poll =>
    rintro rfl h
    split at h
    · next u p => exact ⟨.poll ⟨u, p⟩, Option.isSome_of_eq_some h, rfl⟩
    · cases h
  case clear =>
    rintro rfl h
    split at h
    · exact oneByte_some (fun e => ⟨.clear .all, rfl, by rw [e]; rfl⟩) (fun e => ⟨.clear .listeners, rfl, by rw [e]; rfl⟩) h
    · cases h
  case remote =>
    rintro rfl h
    split at h
    · exact oneByte_some (fun e => ⟨.remote false, rfl, by rw [e]; rfl⟩) (fun e => ⟨.remote true, rfl, by rw [e]; rfl⟩) h
    · cases h
  case coded =>
    rintro ⟨low, high⟩ h
    refine ⟨.privateFrame (type.setWidth 6) body, Option.isSome_of_eq_some h, ?_⟩
    rw [wire, privateType_setWidth low high]

/-- Settles O36: each clause by the shape of the run, its type, or its body; characters behind a check byte follow the judged frame. -/
theorem frameFaults : Obligations.FrameFaults := by
  refine ⟨fun s busy cs on receiving bad => ?_, fun s busy cs on receiving => ?_, fun s busy type body on receiving short unknown => ?_,
    fun s busy type body on receiving short known notReply notStatus unsuited => ?_,
    fun s type body check more u on heard short behind judged => ?_⟩
  · have shape : runShape cs = .damaged := by
      rcases bad with few | ⟨t, l, rest, rfl, count⟩ | ⟨t, l, rest, rfl, low⟩
      · exact runShape_of_length few
      · exact runShape_of_count count
      · exact runShape_of_stopLow low
    rw [exec_afterIdle, atRunEnd_receiving on receiving, judgeRun_damaged shape]
  · rw [exec_afterCheck, atRunEnd_receiving on receiving, damagedRun_eq]
  · rw [exec_afterIdle, atRunEnd_receiving on receiving, (judgeRun_framed type short s).1 unknown]
  · have controller : responderType type = false := decide_eq_false fun responder => responder.elim notReply notStatus
    have refused : parseFrame type body = none := by
      cases parsed : parseFrame type body with
      | none => rfl
      | some f =>
        obtain ⟨c, wf, bytes⟩ := wire_of_parseFrame parsed
        exact absurd bytes (unsuited c wf)
    rw [exec_afterIdle, atRunEnd_receiving on receiving, (judgeRun_framed type short s).2 known, controller, refused]
    exact congrArg _ (linkFault_frameOver s .damaged)
  · have alone : judgeRun (chars (type :: BitVec.ofNat 8 body.length :: body ++ [check])) = fun t => t.judgeBytes type body check :=
      funext (judgeRun_frame type check short)
    have followed : judgeRun (chars (type :: BitVec.ofNat 8 body.length :: body ++ [check]) ++ more) =
        fun t => (t.judgeBytes type body check).trailingRun more := funext (judgeRun_chars type check short more)
    rw [exec_afterIdle, alone] at judged
    rw [exec_afterIdle, followed, atRunEnd_comp on heard _ fun t => t.trailingRun more, Host.Outcome.next.inj judged,
      trailingRun_eq u behind]

/-! ### The check as a remainder (R27) -/

/-- The polynomial of the check (R27). -/
noncomputable def checkPoly : Polynomial (ZMod 2) := Polynomial.X ^ 8 + Polynomial.X ^ 2 + Polynomial.X + 1

/-- The remainder of a polynomial by that of the check, as an element of the quotient ring. -/
noncomputable def residue : Polynomial (ZMod 2) →+* Polynomial (ZMod 2) ⧸ Ideal.span {checkPoly} := Ideal.Quotient.mk _

theorem residue_eq_zero_iff (p : Polynomial (ZMod 2)) : residue p = 0 ↔ checkPoly ∣ p := by
  rw [residue, Ideal.Quotient.eq_zero_iff_mem, Ideal.mem_span_singleton]

/-- One bit of a byte as a term of its polynomial. -/
noncomputable def bitTerm (b : Bool) (i : Nat) : Polynomial (ZMod 2) := if b then Polynomial.X ^ i else 0

theorem bytePoly_eq (b : Byte) : bytePoly b = ∑ i ∈ Finset.range 8, bitTerm (b.getLsbD i) i := rfl

theorem bitTerm_xor (a b : Bool) (i : Nat) : bitTerm (a ^^ b) i = bitTerm a i + bitTerm b i := by
  cases a <;> cases b <;> simp [bitTerm, CharTwo.add_self_eq_zero]

theorem bitTerm_succ (b : Bool) (i : Nat) : bitTerm b (i + 1) = bitTerm b i * Polynomial.X := by
  cases b <;> simp [bitTerm, pow_succ]

/-- Bytes combined by exclusive or are added as polynomials. -/
theorem bytePoly_xor (a b : Byte) : bytePoly (a ^^^ b) = bytePoly a + bytePoly b := by
  simp only [bytePoly_eq, BitVec.getLsbD_xor, bitTerm_xor, Finset.sum_add_distrib]

/-- A shift by one place multiplies by X and loses the highest bit. -/
theorem bytePoly_shift (b : Byte) : bytePoly (b <<< 1) = bytePoly b * Polynomial.X + bitTerm (b.getLsbD 7) 8 := by
  have kept : bytePoly (b <<< 1) = ∑ i ∈ Finset.range 7, bitTerm (b.getLsbD i) (i + 1) := by
    rw [bytePoly_eq, Finset.sum_range_succ']
    have low : bitTerm ((b <<< 1).getLsbD 0) 0 = 0 := by simp [bitTerm]
    rw [low, add_zero]
    refine Finset.sum_congr rfl fun i hi => ?_
    have small : i + 1 < 8 := Nat.succ_lt_succ (Finset.mem_range.mp hi)
    have moved : (b <<< 1).getLsbD (i + 1) = b.getLsbD i := by
      rw [BitVec.getLsbD_shiftLeft, decide_eq_true small, Nat.add_sub_cancel]
      simp
    rw [moved]
  rw [kept, bytePoly_eq, Finset.sum_mul, Finset.sum_range_succ _ 7]
  simp only [← bitTerm_succ]
  rw [add_assoc, CharTwo.add_self_eq_zero, add_zero]

theorem bytePoly_seven : bytePoly 0x07 = Polynomial.X ^ 2 + Polynomial.X + 1 := by
  simp [bytePoly, Finset.sum_range_succ]
  ring

/-- One step of the division multiplies the remainder by X. -/
theorem residue_checkStep (r : Byte) : residue (bytePoly (checkStep r)) = residue (bytePoly r) * residue Polynomial.X := by
  rw [← map_mul]
  unfold checkStep
  cases high : r.getLsbD 7 with
  | false => rw [if_neg (by decide), bytePoly_shift, high, bitTerm, if_neg (by decide), add_zero]
  | true =>
    have reduced : bytePoly (r <<< 1 ^^^ 0x07) = bytePoly r * Polynomial.X + checkPoly := by
      rw [bytePoly_xor, bytePoly_shift, high, bytePoly_seven, checkPoly, bitTerm, if_pos rfl]
      ring
    rw [if_pos rfl, reduced, map_add, (residue_eq_zero_iff checkPoly).mpr dvd_rfl, add_zero]

/-- A byte combined with the remainder and eight steps of the division. -/
theorem residue_checkByte (r b : Byte) :
    residue (bytePoly (checkByte r b)) = (residue (bytePoly r) + residue (bytePoly b)) * residue Polynomial.X ^ 8 := by
  simp only [checkByte, residue_checkStep, bytePoly_xor, map_add]
  ring

/-- The check of the bytes divided so far is the remainder of their polynomial shifted by the eight places of the check. -/
theorem residue_foldl (bytes : List Byte) (p : Polynomial (ZMod 2)) (r : Byte)
    (h : residue (bytePoly r) = residue p * residue Polynomial.X ^ 8) :
    residue (bytePoly (bytes.foldl checkByte r)) =
      residue (bytes.foldl (fun p b => p * Polynomial.X ^ 8 + bytePoly b) p) * residue Polynomial.X ^ 8 := by
  induction bytes generalizing p r with
  | nil => exact h
  | cons b bytes ih =>
    refine ih _ _ ?_
    rw [residue_checkByte, h, map_add, map_mul, map_pow]

theorem residue_linkCheck (bytes : List Byte) :
    residue (bytePoly (linkCheck bytes)) = residue (bytesPoly bytes) * residue Polynomial.X ^ 8 :=
  residue_foldl bytes 0 0 (by simp [bytePoly])

theorem checkPoly_dvd (bytes : List Byte) : checkPoly ∣ bytesPoly bytes * Polynomial.X ^ 8 + bytePoly (linkCheck bytes) := by
  rw [← residue_eq_zero_iff, map_add, residue_linkCheck, ← map_pow, ← map_mul, ← map_add, CharTwo.add_self_eq_zero, map_zero]

/-! ### REPLY and STATUS as bytes -/

theorem replyFlags (e n : Bool) : bitAt e 0 ||| bitAt n 1 = BitVec.ofNat 8 (e.toNat + 2 * n.toNat) := by
  revert e n
  decide

theorem statusByte (mark : Bool) (b : BitVec 7) : bitAt mark 7 ||| b.setWidth 8 = BitVec.ofNat 8 (128 * mark.toNat + b.toNat) := by
  revert mark b
  decide

/-- Settles O12: each step of the check is one of the division; the other clauses are the layout of the frames. -/
theorem checkIsTheRemainder : Obligations.CheckIsTheRemainder := by
  refine ⟨checkPoly_dvd, fun s busy type body check on receiving short wrong => ?_, fun e n data => ?_, fun mark b => ?_⟩
  · rw [exec_afterIdle, atRunEnd_receiving on receiving, judgeRun_frame type check short, judgeBytes_wrongCheck s type body check wrong]
  · rw [← replyFlags]
    rfl
  · rw [← statusByte]
    rfl

end Sys2Proof.Proofs

/-! ## The outputs and the registers as their rules state them -/

namespace Sys2Proof.Proofs

-- One theorem after the other: each thread of its own would take a stack.
set_option Elab.async false

open Sys2Proof Sys2Proof.Machine Sys2Proof.Claims

/-! ### The drives and the trigger lines -/

theorem any_stationNumbers (p : StationNo → Bool) : stationNumbers.any p = true ↔ ∃ n, p n = true := by
  simp [stationNumbers]

/-- A property that some station with a record has. -/
theorem any_record (s : State) (p : StationRecord → Bool) :
    stationNumbers.any (having s p) = true ↔ ∃ n r, s.record n = some r ∧ p r = true := by
  rw [any_stationNumbers]
  refine exists_congr fun n => ?_
  cases hr : s.record n with
  | none => simp [having_of_free hr]
  | some r => simp [having_of_record hr]

/-- The drive of LBUSY (R37). -/
theorem lbusy_iff (s : State) : s.lbusy = true ↔ s.attached = true ∧ (s.holds ≠ [] ∨ s.stage ≠ none) := by
  simp [State.lbusy, Option.isSome_iff_ne_none]

/-- The drive of LREQ (R38). -/
theorem lreq_iff (s : State) : s.lreq = true ↔ s.attached = true ∧ ∃ n r, Online s n r ∧ r.request = .asking := by
  simp only [State.lreq, State.someAsking, Bool.and_eq_true, any_stationNumbers, State.onlineWith_iff, decide_eq_true_eq]

/-- The level of a trigger line (R150). -/
theorem triggerLevel_iff (s : State) (l : LineNo) : s.triggerLevel l = true ↔ s.forced.get l = true ∨
    ∃ n r, s.record n = some r ∧ r.life ≠ .retired ∧ r.triggerLine = some l ∧ r.notices.triggered = true := by
  have level : s.triggerLevel l = (s.forced.get l || stationNumbers.any (having s fun r => r.drives l)) := rfl
  simp only [level, Bool.or_eq_true, any_record, StationRecord.drives, Bool.and_eq_true, decide_eq_true_eq, and_assoc]

/-! ### The causes of an interrupt -/

/-- Four causes as the bits of IRQ_CAUSE (R165). -/
def causeBits (notices holds done device : Bool) : BitVec 4 :=
  (if notices then 1 else 0) ||| (if holds then 2 else 0) ||| (if done then 4 else 0) ||| (if device then 8 else 0)

theorem causes_eq (s : State) : s.causes =
    causeBits (decide (s.noticeList ≠ [])) (decide (s.holds ≠ [])) (decide (s.engine = .done)) s.device.anySet := by
  simp only [State.causes, causeBits, decide_eq_true_eq, ite_not]

theorem anySet_iff (d : DeviceNotices) : d.anySet = true ↔ d ≠ ⟨false, false, false, false, false⟩ := by
  have all : ∀ a b c d e : Bool, (DeviceNotices.mk a b c d e).anySet = true ↔
      DeviceNotices.mk a b c d e ≠ ⟨false, false, false, false, false⟩ := by decide
  exact all d.linkResetSeen d.linkFault d.laneOverflow d.accessRefused d.commandOverrun

theorem enabled_causeBits (enable : BitVec 4) (notices holds done device : Bool) : enable &&& causeBits notices holds done device ≠ 0 ↔
    (enable[0] = true ∧ notices = true) ∨ (enable[1] = true ∧ holds = true) ∨ (enable[2] = true ∧ done = true) ∨
      (enable[3] = true ∧ device = true) := by
  revert enable notices holds done device
  decide

theorem causeBits_toNat (notices holds done device : Bool) : ((causeBits notices holds done device).setWidth 8).toNat =
    (if notices then 1 else 0) + (if holds then 2 else 0) + (if done then 4 else 0) + (if device then 8 else 0) := by
  revert notices holds done device
  decide

/-- NIRQ is asserted by an enabled cause (R162). -/
theorem nirqAsserted_iff (s : State) : s.nirqAsserted = true ↔ (s.irqEnable[0] = true ∧ s.noticeList ≠ []) ∨
    (s.irqEnable[1] = true ∧ s.holds ≠ []) ∨ (s.irqEnable[2] = true ∧ s.engine = .done) ∨
    (s.irqEnable[3] = true ∧ s.device ≠ ⟨false, false, false, false, false⟩) := by
  rw [State.nirqAsserted, decide_eq_true_eq, causes_eq, enabled_causeBits, anySet_iff]
  simp only [decide_eq_true_eq]

/-- IRQ_CAUSE (R165). -/
theorem causes_toNat (s : State) : (s.causes.setWidth 8).toNat = (if s.noticeList = [] then 0 else 1) + (if s.holds = [] then 0 else 2) +
    (if s.engine = .done then 4 else 0) + (if s.device = ⟨false, false, false, false, false⟩ then 0 else 8) := by
  rw [causes_eq, causeBits_toNat]
  simp only [anySet_iff, decide_eq_true_eq, ite_not]

/-! ### The registers -/

theorem engineByte_toNat (e : Engine) : e.byte.toNat = (match e with | .idle => 0 | .busy _ _ => 1 | .done => 2) := by cases e <;> rfl

theorem resultByte_toNat (r : ResultCode) : r.byte.toNat = resultNumber r := by cases r <;> rfl

theorem faultByte_toNat (k : Option FaultKind) : (faultByte k).toNat = faultNumber k := by
  cases k with
  | none => rfl
  | some k => cases k <;> rfl

theorem deviceByte_toNat (d : DeviceNotices) : d.byte.toNat = deviceNumber d := by
  have all : ∀ a b c d e : Bool, (DeviceNotices.mk a b c d e).byte.toNat = deviceNumber ⟨a, b, c, d, e⟩ := by decide
  exact all d.linkResetSeen d.linkFault d.laneOverflow d.accessRefused d.commandOverrun

/-- The two bytes of a pointer of 13 bits (R173, R175). -/
theorem pointerBytes_toNat (p : BitVec 13) : (p.setWidth 8).toNat = p.toNat % 256 ∧ ((p >>> 8).setWidth 8).toNat = p.toNat / 256 := by
  have bound := p.isLt
  have high : p.toNat >>> 8 = p.toNat / 256 := Nat.shiftRight_eq_div_pow ..
  refine ⟨BitVec.toNat_setWidth .., ?_⟩
  rw [BitVec.toNat_setWidth, BitVec.toNat_ushiftRight, high]
  omega

theorem regionContains_iff (o : Option Region) (a : Nat) :
    regionContains o a = true ↔ ∃ g, o = some g ∧ g.first.val * 32 ≤ a ∧ a < (g.first.val + g.count) * 32 := by
  cases o with
  | none => simp [regionContains]
  | some g => simp [regionContains, Region.contains_iff]

theorem partOwned_iff (s : State) (a : Nat) : s.partOwned a = true ↔ PartOwned s a := by
  have owned : s.partOwned a = stationNumbers.any (having s fun r => r.partOwns a) := rfl
  have filling (i : Inbound) : i.isComplete = false ↔ ∀ f c, i ≠ .complete f c := by cases i <;> simp [Inbound.isComplete]
  have posted (o : Outbound) : o.isEmpty = false ↔ o ≠ .empty := by cases o <;> simp [Outbound.isEmpty]
  rw [owned, any_record, PartOwned]
  refine exists_congr fun n => exists_congr fun r => and_congr_right fun _ => ?_
  simp only [StationRecord.partOwns, Bool.and_eq_true, Bool.or_eq_true, Bool.not_eq_true', decide_eq_true_eq, regionContains_iff, filling,
    posted, ← exists_and_right, and_assoc]

/-- LINK_STATE by its bits and the hold count (R178). -/
theorem linkState_toNat (s : State) : s.linkState.toNat = s.attached.toNat + 2 * s.remoteEnable.toNat + 4 * s.lockout.toNat +
    8 * s.lbusy.toNat + 16 * s.lreq.toNat + 32 * s.stage.isSome.toNat + 64 * min 3 s.holds.length := by
  have all : ∀ (a b c d e f : Bool) (k : Fin 4), (bitAt a 0 ||| bitAt b 1 ||| bitAt c 2 ||| bitAt d 3 ||| bitAt e 4 ||| bitAt f 5 |||
      (BitVec.ofNat 8 k.val <<< 6)).toNat =
      a.toNat + 2 * b.toNat + 4 * c.toNat + 8 * d.toNat + 16 * e.toNat + 32 * f.toNat + 64 * k.val := by decide
  exact all _ _ _ _ _ _ ⟨min 3 s.holds.length, by omega⟩

/-- TRIGGER_STATE by its bits (R178). -/
theorem triggerState_toNat (s : State) : s.triggerState.toNat = (s.triggerLevel 0).toNat + 2 * (s.triggerLevel 1).toNat +
    4 * (s.triggerLevel 2).toNat + 8 * (s.triggerLevel 3).toNat + 16 * (s.forced.get 0).toNat + 32 * (s.forced.get 1).toNat +
    64 * (s.forced.get 2).toNat + 128 * (s.forced.get 3).toNat := by
  have all : ∀ a b c d e f g h : Bool, (bitAt a 0 ||| bitAt b 1 ||| bitAt c 2 ||| bitAt d 3 ||| bitAt e 4 ||| bitAt f 5 ||| bitAt g 6 |||
      bitAt h 7).toNat = a.toNat + 2 * b.toNat + 4 * c.toNat + 8 * d.toNat + 16 * e.toNat + 32 * f.toNat + 64 * g.toNat +
        128 * h.toNat := by decide
  exact all ..

/-- Settles O22: each output by the lemma of its rule, each register by the lemma of its layout. -/
theorem outputsFollowTheState : Obligations.OutputsFollowTheState := by
  refine ⟨lbusy_iff, lreq_iff, triggerLevel_iff, nirqAsserted_iff, fun s => engineByte_toNat s.engine, fun s => resultByte_toNat s.result,
    fun s => toNat_ofNat_byte _ (by omega), fun s => rfl, fun s => pointerBytes_toNat s.dataPointer, fun s => ?data, fun s => ?enables,
    fun s => deviceByte_toNat s.device, fun s => faultByte_toNat s.faultKind, fun s => toNat_ofNat_byte _ (by omega),
    fun s => pointerBytes_toNat s.refusedAddress, causes_toNat, linkState_toNat, triggerState_toNat⟩
  case data =>
    have read : s.registerValue 0x6 = if s.partOwned s.dataPointer.toNat then 0 else s.readByte s.dataPointer.toNat := rfl
    rw [read, ← partOwned_iff]
    exact ⟨fun owned => if_pos owned, fun free => if_neg free⟩
  case enables =>
    show (s.irqEnable.setWidth 8).toNat = _
    rw [BitVec.toNat_setWidth]
    omega

end Sys2Proof.Proofs

/-! ## ROUTE as its rules state it -/

namespace Sys2Proof.Proofs

-- One theorem after the other: each thread of its own would take a stack.
set_option Elab.async false

open Sys2Proof Sys2Proof.Machine Sys2Proof.Claims

/-! ### Lists with their repeats dropped -/

theorem eraseDups_concat {α : Type} [DecidableEq α] (l : List α) (a : α) :
    (l ++ [a]).eraseDups = if a ∈ l then l.eraseDups else l.eraseDups ++ [a] := by
  rw [List.eraseDups_append]
  by_cases old : a ∈ l
  · simp [List.removeAll, old]
  · have new : [a].removeAll l = [a] := by simp [List.removeAll, old]
    rw [if_neg old, new, eraseDups_of_nodup (List.nodup_singleton a)]

theorem nodup_eraseDups {α : Type} [DecidableEq α] (l : List α) : l.eraseDups.Nodup := by
  induction l using List.reverseRecOn with
  | nil => exact List.nodup_nil
  | append_singleton l a ih =>
    rw [eraseDups_concat]
    split
    · exact ih
    · next new =>
      refine List.nodup_append.mpr ⟨ih, List.nodup_singleton a, ?_⟩
      rintro b hb c hc rfl
      exact new (List.mem_singleton.mp hc ▸ List.mem_eraseDups.mp hb)

/-! ### Stations given notices in turn -/

/-- The station's notice set is empty, so that its first notice puts it into the notice list (R155). -/
def quiet (s : State) (n : StationNo) : Bool := having s (fun r => decide (r.notices = NoticeSet.none)) n

theorem quietOnes_eq (s : State) (ns : List StationNo) : quietOnes s ns = ns.filter (quiet s) := rfl

/-- On the way from `s` to `t` the stations `given` have been given notices, in this order (R155). -/
structure Notified (s t : State) (given : List StationNo) : Prop where
  list : t.noticeList = s.noticeList ++ (quietOnes s given).eraseDups
  still : ∀ n, quiet t n = (quiet s n && decide (n ∉ given))

/-- The notices of a pass come behind those given before it. -/
theorem Notified.pass {P : State → Prop} {f : StationNo → State → State} {g : StationNo → StationRecord → StationRecord} {s t : State}
    {given ns : List StationNo} (h : Notified s t given) (reach : Reaches P f g) (ht : P t) (nodup : ns.Nodup) (gives : StationNo → Bool)
    (changes : ∀ n r, t.record n = some r → ((g n r).notices = NoticeSet.none ↔ r.notices = NoticeSet.none ∧ gives n = false)) :
    Notified s (t.forStations ns f) (given ++ ns.filter gives) where
  list := by
    have first : ns.filter (fun n => having t (wakes (g n)) n) = ((ns.filter gives).filter (quiet s)).removeAll (given.filter (quiet s)) := by
      rw [List.removeAll, List.filter_filter, List.filter_filter]
      refine List.filter_congr fun n _ => ?_
      have wake : having t (wakes (g n)) n = (quiet t n && gives n) := by
        cases hr : t.record n with
        | none => rw [quiet, having_of_free hr, having_of_free hr]; rfl
        | some r =>
          rw [quiet, having_of_record hr, having_of_record hr, wakes, Bool.decide_and]
          by_cases empty : r.notices = NoticeSet.none <;> simp [empty, changes n r hr]
      rw [wake, h.still]
      cases empty : quiet s n <;> simp [empty, Bool.and_comm]
    rw [reach.noticeList_pass ns nodup t ht, h.list, List.append_assoc, first, quietOnes_eq, quietOnes_eq, List.filter_append,
      List.eraseDups_append]
    refine congrArg _ (congrArg _ (eraseDups_of_nodup ?_).symm)
    exact ((nodup.filter _).filter _).filter _
  still n := by
    have own : quiet (t.forStations ns f) n = (quiet t n && decide (n ∉ ns.filter gives)) := by
      have record := reach.record_pass ns nodup t ht n
      by_cases reached : n ∈ ns
      · rw [if_pos reached] at record
        rw [quiet, having_map record, quiet]
        cases hr : t.record n with
        | none => rw [having_of_free hr, having_of_free hr]; rfl
        | some r => rw [having_of_record hr, having_of_record hr]; simp [changes n r hr, reached]
      · rw [if_neg reached] at record
        rw [quiet, having_congr record]
        simp [quiet, reached]
    rw [own, h.still, Bool.and_assoc]
    simp

/-- What is neither a record nor the notice list may change. -/
theorem Notified.of_frame {s t u : State} {given : List StationNo} (h : Notified s t given) (stations : u.stations = t.stations)
    (list : u.noticeList = t.noticeList) : Notified s u given where
  list := list.trans h.list
  still n := (having_congr (State.record_congr stations n) _).trans (h.still n)

/-! ### What the addresses of the frame leave on the records -/

/-- A record with the last of the addresses that matches it (R53). -/
def matchedBy (seen : List Address) (r : StationRecord) : StationRecord :=
  match (seen.filter r.matchesRoute).getLast? with
  | none => r
  | some a => { r with lastMatched := some a }

theorem matchedBy_concat_hit (seen : List Address) {a : Address} {r : StationRecord} (matched : r.matchesRoute a = true) :
    matchedBy (seen ++ [a]) r = { matchedBy seen r with lastMatched := some a } := by
  have last : (seen ++ [a]).filter r.matchesRoute = seen.filter r.matchesRoute ++ [a] := by simp [matched]
  unfold matchedBy
  rw [last, List.getLast?_concat]
  cases (seen.filter r.matchesRoute).getLast? <;> rfl

theorem matchedBy_concat_miss (seen : List Address) {a : Address} {r : StationRecord} (missed : r.matchesRoute a = false) :
    matchedBy (seen ++ [a]) r = matchedBy seen r := by
  simp [matchedBy, missed]

/-- A record after the old route is released and the addresses `seen` are resolved: an ONLINE station has the last address that matched it,
and SEAT_DENIED if it was denied a seat (R53, R56, R63 to R65). -/
def addressed (seen : List Address) (denied : Bool) (r : StationRecord) : StationRecord :=
  if r.life = .online then noticedIf denied .seatDenied (matchedBy seen r.clearPort) else r.clearPort

/-- Only three fields of a record can change. -/
theorem addressed_fields (seen : List Address) (denied : Bool) (r : StationRecord) : ∃ port matched notices,
    addressed seen denied r = { r with acceptedPort := port, lastMatched := matched, notices := notices } := by
  have cleared : ∃ port, r.clearPort = { r with acceptedPort := port } := by
    unfold StationRecord.clearPort
    split
    · exact ⟨none, rfl⟩
    · exact ⟨r.acceptedPort, rfl⟩
  obtain ⟨port, hport⟩ := cleared
  rw [addressed, hport]
  split
  · unfold matchedBy noticedIf
    split <;> split <;> exact ⟨_, _, _, rfl⟩
  · exact ⟨_, _, _, rfl⟩

theorem matchesRoute_clearPort (r : StationRecord) : r.clearPort.matchesRoute = r.matchesRoute := by
  unfold StationRecord.clearPort
  split <;> rfl

/-- The state `t` differs from `s` in its records and its notice list as after the resolution of the addresses `seen`, by which the stations
`denied` were denied a seat, in this order. -/
structure Addressed (s t : State) (seen : List Address) (denied : List StationNo) : Prop where
  records : ∀ n, t.record n = (s.record n).map (addressed seen (decide (n ∈ denied)))
  notified : Notified s t denied
  remoteEnable : t.remoteEnable = s.remoteEnable

/-- What is neither a record nor the notice list nor the remote-enable flag may change. -/
theorem Addressed.of_frame {s t u : State} {seen : List Address} {denied : List StationNo} (h : Addressed s t seen denied)
    (stations : u.stations = t.stations) (list : u.noticeList = t.noticeList) (remote : u.remoteEnable = t.remoteEnable) :
    Addressed s u seen denied where
  records n := (State.record_congr stations n).trans (h.records n)
  notified := h.notified.of_frame stations list
  remoteEnable := remote.trans h.remoteEnable

/-- What the three fields do not enter is as before. -/
theorem Addressed.having_eq {s t : State} {seen : List Address} {denied : List StationNo} (h : Addressed s t seen denied)
    {p : StationRecord → Bool} (n : StationNo)
    (blind : ∀ r port matched notices, p { r with acceptedPort := port, lastMatched := matched, notices := notices } = p r) :
    having t p n = having s p n := by
  rw [having_map (h.records n)]
  refine congrArg (having s · n) (funext fun r => ?_)
  obtain ⟨port, matched, notices, e⟩ := addressed_fields seen (decide (n ∈ denied)) r
  rw [e, blind]

theorem onlineWith_eq (s : State) (n : StationNo) (p : StationRecord → Bool) :
    s.onlineWith n p = having s (fun r => decide (r.life = .online) && p r) n := by
  unfold State.onlineWith having
  cases s.record n <;> rfl

theorem Addressed.onlineWith {s t : State} {seen : List Address} {denied : List StationNo} (h : Addressed s t seen denied)
    {p : StationRecord → Bool} (n : StationNo)
    (blind : ∀ r port matched notices, p { r with acceptedPort := port, lastMatched := matched, notices := notices } = p r) :
    t.onlineWith n p = s.onlineWith n p := by
  rw [onlineWith_eq, onlineWith_eq, h.having_eq n fun r port matched notices => by rw [blind]]

/-! ### The resolver -/

theorem hit_eq_resolve (s : State) (a : Address) : hit s a = s.resolve (fun r => r.matchesRoute a) := rfl

/-- The resolver finds the one ONLINE station that the address matches (R46, R50). -/
theorem hit_iff {s : State} (law : s.addressLaw) (a : Address) (n : StationNo) :
    hit s a = some n ↔ ∃ r, Online s n r ∧ r.matchesRoute a = true := by
  refine ⟨State.resolve_online, fun ⟨r, online, matched⟩ => ?_⟩
  have found : (hit s a).isSome = true := by
    rw [hit_eq_resolve, State.resolve, List.find?_isSome]
    exact ⟨n, List.mem_finRange n, (s.onlineWith_iff n _).mpr ⟨r, online, matched⟩⟩
  obtain ⟨m, hm⟩ := Option.isSome_iff_exists.mp found
  obtain ⟨q, other, matched'⟩ := State.resolve_online hm
  rw [hm, law m n q r a other.1 online.1 other.2 online.2 matched' matched]

theorem Addressed.resolve {s t : State} {seen : List Address} {denied : List StationNo} (h : Addressed s t seen denied) (a : Address) :
    t.resolve (fun r => r.matchesRoute a) = hit s a := by
  rw [hit_eq_resolve]
  unfold State.resolve
  exact congrArg (List.find? · stationNumbers) (funext fun n => h.onlineWith n fun _ _ _ _ => rfl)

theorem having_of_online {s : State} {n : StationNo} {r : StationRecord} (h : Online s n r) (p : StationRecord → Bool) :
    having s p n = s.onlineWith n p := by
  rw [having_of_record h.1, State.onlineWith_of_online h]

/-- What a match does to the records and the notice list: the address is written, and a denied station gets SEAT_DENIED (R53, R63, R64). -/
def visit (a : Address) (denied : Bool) (n : StationNo) (t : State) : State :=
  if denied then (t.writeMatch n a).addNotice n .seatDenied else t.writeMatch n a

theorem reaches_visit (a : Address) (denied : Bool) : Reaches (fun _ => True) (visit a denied)
    (fun _ r => noticedIf denied .seatDenied { r with lastMatched := some a }) :=
  (reaches_updateRecord (g := fun r => { r with lastMatched := some a }) fun _ => rfl).comp
    (reaches_noticedIf (fun _ => denied) .seatDenied)

theorem notices_noticedIf (b : Bool) (k : NoticeKind) (r : StationRecord) :
    (noticedIf b k r).notices = NoticeSet.none ↔ r.notices = NoticeSet.none ∧ b = false := by
  cases b with
  | true => simp [noticedIf, r.notices.add_ne_none k]
  | false => simp [noticedIf]

/-- An address that matches no station leaves everything alone. -/
theorem Addressed.miss {s t : State} {seen : List Address} {denied : List StationNo} {a : Address} (h : Addressed s t seen denied)
    (law : s.addressLaw) (nowhere : hit s a = none) : Addressed s t (seen ++ [a]) denied where
  records n := by
    rw [h.records n]
    refine Option.map_congr fun r hr => ?_
    unfold addressed
    split
    · next online =>
      have missed : r.clearPort.matchesRoute a = false := by
        rw [matchesRoute_clearPort, ← Bool.not_eq_true]
        exact fun matched => Option.some_ne_none n (((hit_iff law a n).mpr ⟨r, ⟨hr, online⟩, matched⟩).symm.trans nowhere)
      rw [matchedBy_concat_miss seen missed]
    · rfl
  notified := h.notified
  remoteEnable := h.remoteEnable

/-- A denial after others is no news. -/
theorem noticedIf_again (b c : Bool) (k : NoticeKind) (a : Address) (r : StationRecord) :
    noticedIf c k { noticedIf b k r with lastMatched := some a } = noticedIf (b || c) k { r with lastMatched := some a } := by
  cases b <;> cases c <;> cases k <;> rfl

/-- An address that matches a station. -/
theorem Addressed.visit {s t : State} {seen : List Address} {denied : List StationNo} {a : Address} {n : StationNo}
    (h : Addressed s t seen denied) (law : s.addressLaw) (hn : hit s a = some n) (deny : Bool) :
    Addressed s (visit a deny n t) (seen ++ [a]) (denied ++ if deny then [n] else []) where
  records m := by
    rw [(reaches_visit a deny).record n m t trivial]
    obtain ⟨r, online, matched⟩ := (hit_iff law a n).mp hn
    split
    · next e =>
      subst e
      rw [h.records m, online.1]
      have matched : r.clearPort.matchesRoute a = true := by rwa [matchesRoute_clearPort]
      have names : decide (m ∈ denied ++ if deny then [m] else []) = (decide (m ∈ denied) || deny) := by cases deny <;> simp
      simp only [Option.map_some, addressed, online.2, if_true, names, matchedBy_concat_hit seen matched, noticedIf_again]
    · next other =>
      rw [h.records m]
      refine Option.map_congr fun q hq => ?_
      have names : decide (m ∈ denied ++ if deny then [n] else []) = decide (m ∈ denied) := by cases deny <;> simp [other]
      unfold addressed
      split
      · next still =>
        have missed : q.clearPort.matchesRoute a = false := by
          rw [matchesRoute_clearPort, ← Bool.not_eq_true]
          exact fun matched' => other (law m n q r a hq online.1 still online.2 matched' matched)
        rw [names, matchedBy_concat_miss seen missed]
      · rfl
  notified := by
    have one : (if deny then [n] else []) = [n].filter (fun _ => deny) := by cases deny <;> rfl
    rw [one]
    exact h.notified.pass (reaches_visit a deny) trivial (List.nodup_singleton n) (fun _ => deny) fun _ r _ => notices_noticedIf deny _ _
  remoteEnable := by
    rw [(reaches_visit a deny).frame n t]
    exact h.remoteEnable

/-! ### Seats and denials by the addresses -/

/-- The station the talker address matches; unit 127 is no talker (R51, R63). -/
def talkHit (s : State) (ta : Address) : Option StationNo := if ta.unit.val = 127 then none else hit s ta

theorem talkerOf_eq (s : State) (ta : Address) : talkerOf s ta = (talkHit s ta).filter (having s fun r => r.mayTalk) := rfl

/-- The addresses presented to the resolver (R51). -/
def presented (ta : Address) (las : List Address) : List Address := (if ta.unit.val = 127 then [] else [ta]) ++ las

theorem presented_concat (ta : Address) (las : List Address) (a : Address) : presented ta (las ++ [a]) = presented ta las ++ [a] :=
  (List.append_assoc ..).symm

/-- The stations in lanes, in lane order: the first four claimants (R64, R65). -/
def seats (s : State) (ta : Address) (las : List Address) : List StationNo := (claimants s ta las).take 4

/-- The station is neither the talker nor in a lane. -/
def unseated (s : State) (ta : Address) (las : List Address) (n : StationNo) : Bool :=
  decide (talkerOf s ta ≠ some n) && !decide (n ∈ seats s ta las)

/-- The stations denied a seat, in address order (R63 to R65). -/
def deniedStations (s : State) (ta : Address) (las : List Address) : List StationNo :=
  (talkHit s ta).toList.filter (having s fun r => !r.mayTalk) ++ (las.filterMap (hit s)).filter (unseated s ta las)

theorem unseated_iff (s : State) (ta : Address) (las : List Address) (n : StationNo) :
    unseated s ta las n = true ↔ talkerOf s ta ≠ some n ∧ n ∉ seats s ta las := by
  simp [unseated]

section
variable {s : State} (ta : Address) (as : List Address) {a : Address} {n : StationNo}

theorem claimants_concat_miss (nowhere : hit s a = none) : claimants s ta (as ++ [a]) = claimants s ta as := by
  simp [claimants, nowhere]

/-- The claimants are the stations matched that may listen, the talker apart (R64). -/
theorem mem_claimants : n ∈ claimants s ta as ↔
    n ∈ as.filterMap (hit s) ∧ having s (fun r => r.mayListen) n = true ∧ talkerOf s ta ≠ some n := by
  rw [claimants, List.mem_eraseDups, List.mem_filter, Bool.and_eq_true, decide_eq_true_eq]

/-- A matched station claims a lane unless it is the talker, may not listen, or has claimed one before (R64). -/
theorem claimants_concat_hit (hn : hit s a = some n) : claimants s ta (as ++ [a]) =
    if having s (fun r => r.mayListen) n = true ∧ talkerOf s ta ≠ some n ∧ n ∉ claimants s ta as then claimants s ta as ++ [n]
    else claimants s ta as := by
  have one : [a].filterMap (hit s) = [n] := by simp [hn]
  by_cases claims : having s (fun r => r.mayListen) n = true ∧ talkerOf s ta ≠ some n
  · obtain ⟨listens, talks⟩ := claims
    simp only [listens, talks, ne_eq, not_false_eq_true, true_and, ite_not, mem_claimants, and_true]
    rw [claimants, List.filterMap_append, List.filter_append, one, List.filter_singleton, listens, decide_eq_true talks,
      Bool.and_self, cond_true, eraseDups_concat]
    exact if_congr (by simp [listens, talks]) rfl rfl
  · rw [if_neg fun c => claims ⟨c.1, c.2.1⟩, claimants, List.filterMap_append, List.filter_append, one, List.filter_singleton]
    have idle : (having s (fun r => r.mayListen) n && decide (talkerOf s ta ≠ some n)) = false := by
      rwa [← Bool.not_eq_true, Bool.and_eq_true, decide_eq_true_eq]
    rw [idle, cond_false, List.append_nil, claimants]

theorem nodup_seats (s : State) : (seats s ta as).Nodup := (nodup_eraseDups _).sublist (List.take_sublist ..)

theorem seats_concat_miss (nowhere : hit s a = none) : seats s ta (as ++ [a]) = seats s ta as :=
  congrArg (List.take 4) (claimants_concat_miss ta as nowhere)

/-- A matched station without a seat that may listen takes the next lane, while one is empty (R64, R65). -/
theorem seats_concat_hit (hn : hit s a = some n) : seats s ta (as ++ [a]) =
    if unseated s ta as n = true ∧ having s (fun r => r.mayListen) n = true ∧ (seats s ta as).length < 4 then seats s ta as ++ [n]
    else seats s ta as := by
  simp only [unseated_iff, seats]
  rw [claimants_concat_hit ta as hn]
  by_cases room : (claimants s ta as).length < 4
  · have all : (claimants s ta as).take 4 = claimants s ta as := List.take_of_length_le (by omega)
    have more : (claimants s ta as ++ [n]).take 4 = claimants s ta as ++ [n] := List.take_of_length_le (by simp; omega)
    rw [apply_ite (List.take 4), all, more]
    exact if_congr (by tauto) rfl rfl
  · have full : ¬ ((claimants s ta as).take 4).length < 4 := by rw [List.length_take]; omega
    have same : (claimants s ta as ++ [n]).take 4 = (claimants s ta as).take 4 := List.take_append_of_le_length (by omega)
    rw [apply_ite (List.take 4), same, ite_self, if_neg fun c => full c.2.2]

/-- What an earlier entry matched keeps its seat, or stays without one (R64, R65). -/
theorem unseated_concat_of_hit (hm : n ∈ as.filterMap (hit s)) (a : Address) : unseated s ta (as ++ [a]) n = unseated s ta as n := by
  have same : n ∈ seats s ta (as ++ [a]) ↔ n ∈ seats s ta as := by
    cases ha : hit s a with
    | none => rw [seats_concat_miss ta as ha]
    | some m =>
      rw [seats_concat_hit ta as ha]
      split
      · next seated =>
        obtain ⟨free, listens, room⟩ := seated
        obtain ⟨talks, out⟩ := (unseated_iff ..).mp free
        have other : n ≠ m := by
          rintro rfl
          -- With an empty lane every claimant has one.
          have all : seats s ta as = claimants s ta as := List.take_of_length_le (by rw [seats, List.length_take] at room; omega)
          exact out (all ▸ (mem_claimants ta as).mpr ⟨hm, listens, talks⟩)
        simp [other]
      · rfl
  rw [unseated, unseated, decide_eq_decide.mpr same]

/-- An entry that matches a station denies it if it is left without a seat (R64, R65). -/
theorem deniedStations_concat_hit (hn : hit s a = some n) : deniedStations s ta (as ++ [a]) =
    deniedStations s ta as ++ if unseated s ta (as ++ [a]) n then [n] else [] := by
  have one : [a].filterMap (hit s) = [n] := by simp [hn]
  have before : (as.filterMap (hit s)).filter (unseated s ta (as ++ [a])) = (as.filterMap (hit s)).filter (unseated s ta as) :=
    List.filter_congr fun m hm => unseated_concat_of_hit ta as hm a
  rw [deniedStations, List.filterMap_append, List.filter_append, one, before, List.filter_singleton, ← List.append_assoc]
  cases unseated s ta (as ++ [a]) n <;> rfl

theorem deniedStations_concat_miss (nowhere : hit s a = none) : deniedStations s ta (as ++ [a]) = deniedStations s ta as := by
  have same : unseated s ta (as ++ [a]) = unseated s ta as := funext fun m => by rw [unseated, unseated, seats_concat_miss ta as nowhere]
  simp [deniedStations, nowhere, same]

end

/-! ### The places of the route half taken -/

/-- A station's place: tentative if its port policy is OPEN (R63, R64). -/
def seatFor (s : State) (n : StationNo) : Place := ⟨n, isOpen s n⟩

/-- After the talker address and the listener entries `as` of a ROUTE frame taken in `s`. -/
structure Seated (s : State) (ta : Address) (as : List Address) (p : RoutePass) : Prop where
  addressed : Addressed s p.state (presented ta as) (deniedStations s ta as)
  talkSeat : p.state.talkSeat = (talkerOf s ta).map (seatFor s)
  lanes : ∀ i : LaneNo, p.state.lane i = ((seats s ta as)[i.val]?).map (seatFor s)

/-- The stations with a place are the talker and those in lanes. -/
theorem Seated.placed_iff {s : State} {ta : Address} {as : List Address} {p : RoutePass} (h : Seated s ta as p) (n : StationNo) :
    Placed p.state n ↔ talkerOf s ta = some n ∨ n ∈ seats s ta as := by
  have talks : (∃ q, p.state.place none = some q ∧ q.station = n) ↔ talkerOf s ta = some n := by
    rw [show p.state.place none = _ from h.talkSeat]
    cases talkerOf s ta <;> simp [seatFor]
  have listens : (∃ l q, p.state.place (some l) = some q ∧ q.station = n) ↔ n ∈ seats s ta as := by
    have lane (l : LaneNo) : p.state.place (some l) = _ := h.lanes l
    rw [List.mem_iff_getElem?]
    constructor
    · rintro ⟨l, q, hq, rfl⟩
      rw [lane] at hq
      obtain ⟨m, hm, rfl⟩ := Option.map_eq_some_iff.mp hq
      exact ⟨l, hm⟩
    · rintro ⟨i, hi⟩
      have few : i < 4 := by
        have len := (List.getElem?_eq_some_iff.mp hi).1
        rw [seats, List.length_take] at len
        omega
      exact ⟨⟨i, few⟩, seatFor s n, by rw [lane, hi]; rfl, rfl⟩
  rw [Placed, Option.exists, talks, listens]

theorem Seated.hasPlace_eq {s : State} {ta : Address} {as : List Address} {p : RoutePass} (h : Seated s ta as p) (n : StationNo) :
    p.state.hasPlace n = !unseated s ta as n := by
  rw [Bool.eq_iff_iff, State.hasPlace_iff, h.placed_iff, unseated]
  simp only [Bool.not_and, Bool.not_not, Bool.or_eq_true, decide_eq_true_eq, ne_eq, Bool.not_eq_true', decide_eq_false_iff_not,
    Classical.not_not]

/-- The lowest empty lane when the lanes are filled from lane 0 on. -/
theorem emptyLane_of_filled {t : State} {ns : List StationNo} {f : StationNo → Place} (lanes : ∀ i : LaneNo, t.lane i = (ns[i.val]?).map f) :
    t.emptyLane = if h : ns.length < 4 then some ⟨ns.length, h⟩ else none := by
  have empty (i : LaneNo) : decide (t.lane i = none) = decide (ns.length ≤ i.val) := by simp [lanes]
  simp only [State.emptyLane, laneNumbers, empty]
  rcases ns with _ | ⟨_, _ | ⟨_, _ | ⟨_, _ | ⟨_, _⟩⟩⟩⟩ <;> simp

/-- A test of the station that an address matched. -/
theorem Addressed.onlineWith_hit {s t : State} {seen : List Address} {denied : List StationNo} {a : Address} {n : StationNo}
    (h : Addressed s t seen denied) (hn : hit s a = some n) {p : StationRecord → Bool}
    (blind : ∀ r port matched notices, p { r with acceptedPort := port, lastMatched := matched, notices := notices } = p r) :
    t.onlineWith n p = having s p n := by
  obtain ⟨r, online, _⟩ := State.resolve_online hn
  rw [h.onlineWith n blind, having_of_online online]

/-- The old route is released before any address is resolved (R56, R62). -/
theorem addressed_released (s : State) : Addressed s s.emptyRoute.clearAcceptedPorts [] [] where
  records n := by
    rw [State.record_clearAcceptedPorts]
    refine Option.map_congr fun r _ => ?_
    unfold addressed
    split <;> rfl
  notified := by
    refine ⟨(noticeList_clearAcceptedPorts _).trans (List.append_nil _).symm, fun n => ?_⟩
    rw [quiet, having_map (s.emptyRoute.record_clearAcceptedPorts n)]
    simp only [notices_clearPort, List.not_mem_nil, not_false_eq_true, decide_true, Bool.and_true]
    rfl
  remoteEnable := by rw [clearAcceptedPorts_frame]; rfl

/-- Without a matched talker the route is empty and nobody is denied. -/
theorem Seated.of_no_talker {s : State} {ta : Address} {p : RoutePass} (nobody : talkHit s ta = none)
    (addressed : Addressed s p.state (presented ta []) []) (talkSeat : p.state.talkSeat = none) (lanes : ∀ i, p.state.lane i = none) :
    Seated s ta [] p where
  addressed := by rw [deniedStations, nobody]; exact addressed
  talkSeat := by rw [talkerOf_eq, nobody]; exact talkSeat
  lanes := lanes

theorem talkerOf_of_hit {s : State} {ta : Address} {n : StationNo} (asked : talkHit s ta = some n) :
    talkerOf s ta = if having s (fun r => r.mayTalk) n then some n else none := by
  rw [talkerOf_eq, asked, Option.filter_some]

theorem deniedStations_of_talkHit {s : State} {ta : Address} {n : StationNo} (asked : talkHit s ta = some n) (hn : hit s ta = some n) :
    deniedStations s ta [] = if !having s (fun r => r.mayTalk) n then [n] else [] := by
  obtain ⟨r, online, _⟩ := State.resolve_online hn
  rw [deniedStations, asked, Option.toList_some, List.filter_singleton, having_of_record online.1, having_of_record online.1]
  cases r.mayTalk <;> rfl

/-- Step 2: a talker that may talk takes the talk seat, and another is denied it (R63). -/
theorem Seated.seatTalker {s t : State} (law : s.addressLaw) (h : Addressed s t [] []) (talkSeat : t.talkSeat = none)
    (lanes : ∀ i, t.lane i = none) (ta : Address) : Seated s ta [] (t.seatTalker ta) := by
  unfold State.seatTalker
  by_cases silent : ta.unit.val = 127
  · have unit : ta.unit = 127 := Fin.ext silent
    rw [if_pos unit]
    refine .of_no_talker (if_pos silent) ?_ talkSeat lanes
    rw [presented, if_pos silent]; exact h
  · have unit : ¬ ta.unit = 127 := fun e => silent (congrArg Fin.val e)
    have asked : talkHit s ta = hit s ta := if_neg silent
    have seen : presented ta [] = [] ++ [ta] := by rw [presented, if_neg silent]; rfl
    rw [if_neg unit, h.resolve]
    cases hn : hit s ta with
    | none =>
      refine .of_no_talker (asked.trans hn) ?_ talkSeat lanes
      rw [seen]; exact h.miss law hn
    | some n =>
      dsimp only
      rw [h.onlineWith_hit hn fun _ _ _ _ => rfl, h.onlineWith_hit hn fun _ _ _ _ => rfl]
      have talker := talkerOf_of_hit (asked.trans hn)
      have visited := h.visit law hn (!having s (fun r => r.mayTalk) n)
      rw [← seen, List.nil_append, ← deniedStations_of_talkHit (asked.trans hn) hn] at visited
      cases talks : having s (fun r => r.mayTalk) n with
      | false =>
        rw [talks] at talker visited
        have frame := (t.writeMatch n ta).addNotice_frame n .seatDenied
        refine ⟨visited, ?_, fun i => (congrArg (State.lane · i) frame).trans (lanes i)⟩
        rw [talker]
        exact (congrArg State.talkSeat frame).trans talkSeat
      | true =>
        rw [talks] at talker visited
        cases opens : isOpen s n with
        | true | false =>
          rw [show having s (fun r => decide (r.policy = .openPort)) n = _ from opens]
          exact ⟨visited.of_frame rfl rfl rfl, by rw [talker]; simp [seatFor, opens], lanes⟩

/-- A matched entry that takes no lane: the station is denied exactly if it is left without a seat (R64, R65). -/
theorem Seated.noLane {s : State} {ta : Address} {as : List Address} {p : RoutePass} {a : Address} {n : StationNo} (h : Seated s ta as p)
    (law : s.addressLaw) (hn : hit s a = some n) (same : seats s ta (as ++ [a]) = seats s ta as) :
    Seated s ta (as ++ [a]) { p with state := visit a (unseated s ta as n) n p.state } where
  addressed := by
    have stays : unseated s ta (as ++ [a]) n = unseated s ta as n := by rw [unseated, unseated, same]
    rw [presented_concat, deniedStations_concat_hit ta as hn, stays]
    exact h.addressed.visit law hn (unseated s ta as n)
  talkSeat := by
    rw [(reaches_visit a _).frame n p.state]
    exact h.talkSeat
  lanes i := by
    rw [same, (reaches_visit a _).frame n p.state]
    exact h.lanes i

/-- The device notice of a denial is outside the route (R65). -/
theorem Seated.laneOverflow {s t : State} {ta : Address} {as : List Address} {tentative : List (StationNo × Address)}
    (h : Seated s ta as ⟨t, tentative⟩) (n : StationNo) : Seated s ta as ⟨t.laneOverflow n, tentative⟩ := by
  unfold State.laneOverflow
  split
  · exact h
  · exact ⟨h.addressed.of_frame rfl rfl rfl, h.talkSeat, h.lanes⟩

/-- A matched entry that takes the next lane (R64). -/
theorem Seated.takeLane {s : State} {ta : Address} {as : List Address} {p : RoutePass} {a : Address} {n : StationNo} (h : Seated s ta as p)
    (law : s.addressLaw) (hn : hit s a = some n) (grown : seats s ta (as ++ [a]) = seats s ta as ++ [n])
    (room : (seats s ta as).length < 4) (tentative : List (StationNo × Address)) :
    Seated s ta (as ++ [a]) ⟨(p.state.writeMatch n a).setLane ⟨(seats s ta as).length, room⟩ (some (seatFor s n)), tentative⟩ where
  addressed := by
    have seated : unseated s ta (as ++ [a]) n = false := by rw [unseated, grown]; simp
    rw [presented_concat, deniedStations_concat_hit ta as hn, seated]
    exact (h.addressed.visit law hn false).of_frame rfl rfl rfl
  talkSeat := h.talkSeat
  lanes i := by
    have lane : (p.state.writeMatch n a).lane i = _ := h.lanes i
    rw [State.lane_setLane, lane, grown, List.getElem?_append]
    split
    · next e => simp [e]
    · next e =>
      split
      · rfl
      · next past =>
        have beyond : (seats s ta as).length < i.val := by
          have : i.val ≠ (seats s ta as).length := fun e' => e (Fin.ext e')
          omega
        rw [List.getElem?_eq_none (by omega), List.getElem?_eq_none (by simp; omega)]

/-- Step 3 for one listener entry (R64, R65). -/
theorem Seated.seatListener {s : State} (law : s.addressLaw) {ta : Address} {as : List Address} {p : RoutePass} (h : Seated s ta as p)
    (a : Address) : Seated s ta (as ++ [a]) (p.seatListener a) := by
  unfold RoutePass.seatListener
  dsimp only
  rw [h.addressed.resolve]
  cases hn : hit s a with
  | none =>
    refine ⟨?_, h.talkSeat, fun i => ?_⟩
    · rw [presented_concat, deniedStations_concat_miss ta as hn]
      exact h.addressed.miss law hn
    · rw [seats_concat_miss ta as hn]
      exact h.lanes i
  | some n =>
    dsimp only
    have grown := seats_concat_hit ta as hn
    rw [h.hasPlace_eq, h.addressed.onlineWith_hit hn fun _ _ _ _ => rfl, h.addressed.onlineWith_hit hn fun _ _ _ _ => rfl,
      emptyLane_of_filled h.lanes]
    cases free : unseated s ta as n with
    | false =>
      rw [if_neg (by simp [free])] at grown
      have passed := h.noLane law hn grown
      rw [free] at passed
      exact passed
    | true =>
      cases listens : having s (fun r => r.mayListen) n with
      | false =>
        rw [if_neg (by simp [listens])] at grown
        have passed := h.noLane law hn grown
        rw [free] at passed
        exact passed
      | true =>
        by_cases room : (seats s ta as).length < 4
        · rw [if_pos ⟨free, listens, room⟩] at grown
          rw [dif_pos room]
          have seated := h.takeLane law hn grown room
          rw [seatFor] at seated
          cases opens : isOpen s n with
          | true | false =>
            rw [opens] at seated
            rw [show having s (fun r => decide (r.policy = .openPort)) n = _ from opens]
            exact seated _
        · rw [if_neg fun c => room c.2.2] at grown
          rw [dif_neg room]
          have passed := h.noLane law hn grown
          rw [free] at passed
          exact passed.laneOverflow n

/-- Steps 1 to 3 of a ROUTE frame: the route as it is once all addresses are resolved (R61 to R65). -/
theorem Seated.seatListeners {s : State} (law : s.addressLaw) {ta : Address} {p : RoutePass} (h : Seated s ta [] p) (as : List Address) :
    Seated s ta as (as.foldl RoutePass.seatListener p) := by
  induction as using List.reverseRecOn with
  | nil => exact h
  | append_singleton as a ih =>
    rw [List.foldl_append]
    exact ih.seatListener law a

/-! ### The remote transition of the new listeners (R66) -/

/-- The control mode is one that the remote transition changes (R66). -/
def inLocal (r : StationRecord) : Bool := decide (r.mode = .unlockedLocal ∨ r.mode = .lockedLocal)

theorem transition_eq (s : State) (r : StationRecord) :
    transition s r = if s.remoteEnable && inLocal r then moved (underRemote r.mode) r else r := by
  refine if_congr ?_ rfl rfl
  cases hm : r.mode <;> simp [underRemote, inLocal, hm]

theorem remoteTransition_eq (n : StationNo) (t : State) : t.remoteTransition n =
    if t.remoteEnable && having t inLocal n then
      (t.updateRecord n fun r => { r with mode := underRemote r.mode }).addNotice n .modeChanged
    else t := by
  unfold State.remoteTransition
  cases hr : t.record n with
  | none => simp [having_of_free hr]
  | some r =>
    rw [having_of_record hr]
    cases t.remoteEnable with
    | false => rfl
    | true => cases hm : r.mode <;> simp [inLocal, hm, State.updateRecord, hr, underRemote]

/-- The remote transition of one station, while the remote-enable flag is as in `s`. -/
theorem reaches_remoteTransition (s : State) : Reaches (fun t => t.remoteEnable = s.remoteEnable) (fun n t => t.remoteTransition n)
    (fun _ => transition s) := by
  have change : Reaches (fun _ => True)
      (fun n t => (t.updateRecord n fun r => { r with mode := underRemote r.mode }).addNotice n .modeChanged)
      (fun _ r => moved (underRemote r.mode) r) :=
    (reaches_updateRecord (g := fun r => { r with mode := underRemote r.mode }) fun _ => rfl).comp (reaches_addNotice .modeChanged)
  have keeps (n : StationNo) (t : State) (h : t.remoteEnable = s.remoteEnable) :
      ((t.updateRecord n fun r => { r with mode := underRemote r.mode }).addNotice n .modeChanged).remoteEnable = s.remoteEnable := by
    rw [change.frame n t]; exact h
  have chosen := (change.mono keeps).when (c := fun n t => t.remoteEnable && having t inLocal n)
    (b := fun _ r => s.remoteEnable && inLocal r) fun n t r h hr => by rw [h, having_of_record hr]
  have steps : (fun n (t : State) => t.remoteTransition n) = _ := funext fun n => funext fun t => remoteTransition_eq n t
  have values : (fun _ : StationNo => transition s) = _ := funext fun _ => funext fun r => transition_eq s r
  rw [steps, values]
  exact chosen

theorem notices_transition (s : State) (r : StationRecord) : (transition s r).notices = NoticeSet.none ↔
    r.notices = NoticeSet.none ∧ (s.remoteEnable && inLocal r) = false := by
  rw [transition_eq]
  cases s.remoteEnable && inLocal r with
  | true => simp [moved, NoticeSet.none]
  | false => simp

/-- The new listeners: the stations in lanes whose port policy is not OPEN (R64). -/
def newListeners (s : State) (ta : Address) (las : List Address) : List StationNo := (seats s ta las).filter fun n => !isOpen s n

theorem nodup_newListeners (s : State) (ta : Address) (las : List Address) : (newListeners s ta las).Nodup := (nodup_seats ta las s).filter _

theorem Seated.listeners_eq {s : State} {ta : Address} {as : List Address} {p : RoutePass} (h : Seated s ta as p) :
    p.state.listeners = newListeners s ta as := by
  have few : (seats s ta as).length ≤ 4 := List.length_take_le ..
  have seat (n : StationNo) : seatedIn (some (seatFor s n)) = if isOpen s n then none else some n := by
    rw [seatFor]
    cases isOpen s n <;> rfl
  have lane (i : LaneNo) : seatedIn (p.state.lane i) = ((seats s ta as)[i.val]?).bind fun n => if isOpen s n then none else some n := by
    rw [h.lanes]
    cases (seats s ta as)[i.val]? with
    | none => rfl
    | some n => exact seat n
  have keep : (fun n => if isOpen s n then none else some n) = Option.guard fun n => !isOpen s n := by
    funext n
    cases e : isOpen s n <;> simp [Option.guard, e]
  rw [State.listeners, newListeners, ← List.filterMap_eq_filter, ← keep]
  simp only [lane]
  generalize seats s ta as = ns at few
  rcases ns with _ | ⟨_, _ | ⟨_, _ | ⟨_, _ | ⟨_, _ | ⟨_, _⟩⟩⟩⟩⟩
  case cons.cons.cons.cons.cons => simp at few; omega
  all_goals rfl

/-! ### The holds and the retirements (R21, R67) -/

/-- The PORT holds touch nothing but the hold list and its tag counter. -/
theorem raisePortHolds_frame (es : List (StationNo × Address)) (s : State) : es.foldl State.raisePortHold s =
    { s with holds := (es.foldl State.raisePortHold s).holds, holdTag := (es.foldl State.raisePortHold s).holdTag } := by
  induction es generalizing s with
  | nil => rfl
  | cons e es ih =>
    have one : s.raisePortHold e = { s with holds := (s.raisePortHold e).holds, holdTag := (s.raisePortHold e).holdTag } := by
      unfold State.raisePortHold
      split <;> rfl
    rw [List.foldl_cons, ih, one]

/-- Only stations with tentative places get PORT holds. -/
theorem held_raisePortHolds {n : StationNo} (es : List (StationNo × Address)) {s : State} (held : Held (es.foldl State.raisePortHold s) n) :
    Held s n ∨ n ∈ es.map Prod.fst := by
  induction es generalizing s with
  | nil => exact .inl held
  | cons e es ih =>
    rw [List.map_cons, List.mem_cons]
    rcases ih held with before | later
    · unfold State.raisePortHold at before
      split at before
      · exact .inl before
      · next q _ =>
        rcases (State.held_raiseAll (.port e.2.unit q) [e.1] s n).mp before with before | own
        · exact .inl before
        · exact .inr (.inl (List.mem_singleton.mp own))
    · exact .inr (.inr later)

/-- No RETIRING station has an obligation left (R21). -/
def Released (t : State) : Prop := ∀ n r, t.record n = some r → r.life = .retiring → ¬ Obliged t n

/-- A report of R20 retires a RETIRING station that has no obligation left (R21). -/
theorem reaches_release : Reaches Released State.reportRelease (fun _ r => if decide (r.life = .retiring) then r.retire else r) := by
  refine (reaches_becomeRetired.mono fun n t released m r hr retiring => ?_).when fun n t r released hr => ?_
  · rw [(t.becomeRetired_sameBlocks n).obliged]
    rw [State.record_becomeRetired] at hr
    split at hr
    · obtain ⟨q, _, rfl⟩ := Option.map_eq_some_iff.mp hr
      cases retiring
    · exact released m r hr retiring
  · rw [State.hasLife, hr]
    by_cases retiring : r.life = .retiring
    · have free : t.hasObligation n = false := by
        rw [← Bool.not_eq_true, t.hasObligation_iff]; exact released n r hr retiring
      rw [free]
      exact Bool.and_true _
    · simp [retiring]

/-- The RETIRING stations with a place, in ascending number: the frame releases them (R62). -/
def releasedStations (s : State) : List StationNo := stationNumbers.filter fun n => s.hasLife n .retiring && s.hasPlace n

theorem placed_eq (s : State) (n : StationNo) : placed s n = s.hasPlace n := by
  simp only [placed, State.hasPlace, List.any_cons, List.any_nil, Bool.or_false, laneNumbers]
  rfl

/-! ### The whole frame -/

/-- A station with a place in the new route is ONLINE. -/
theorem Seated.online {s : State} {ta : Address} {as : List Address} {p : RoutePass} (h : Seated s ta as p) {n : StationNo}
    (placed : Placed p.state n) : ∃ r, Online s n r := by
  have matched : ∃ a, hit s a = some n := by
    rcases (h.placed_iff n).mp placed with talks | listens
    · rw [talkerOf_eq, Option.filter_eq_some_iff] at talks
      have asked := talks.1
      unfold talkHit at asked
      split at asked
      · cases asked
      · exact ⟨ta, asked⟩
    · obtain ⟨a, _, ha⟩ := List.mem_filterMap.mp ((mem_claimants ta as).mp (List.mem_of_mem_take listens)).1
      exact ⟨a, ha⟩
  obtain ⟨a, ha⟩ := matched
  obtain ⟨r, online, _⟩ := State.resolve_online ha
  exact ⟨r, online⟩

theorem denied_eq (s : State) (ta : Address) (las : List Address) (n : StationNo) :
    denied s ta las n = decide (n ∈ deniedStations s ta las) := by
  have talker : (decide (ta.unit.val ≠ 127) && decide (hit s ta = some n) && !having s (fun r => r.mayTalk) n) =
      decide (n ∈ (talkHit s ta).toList.filter (having s fun r => !r.mayTalk)) := by
    by_cases silent : ta.unit.val = 127
    · simp [talkHit, silent]
    · cases hn : hit s ta with
      | none => simp [talkHit, silent, hn]
      | some m =>
        obtain ⟨r, online, _⟩ := State.resolve_online hn
        by_cases e : m = n
        · subst e
          simp [talkHit, silent, hn, having_of_record online.1]
        · simp [talkHit, silent, hn, e, Ne.symm e]
  have listener : (las.any (fun a => decide (hit s a = some n)) && decide (talkerOf s ta ≠ some n) && !decide (n ∈ (claimants s ta las).take 4)) =
      decide (n ∈ (las.filterMap (hit s)).filter (unseated s ta las)) := by
    rw [Bool.and_assoc, Bool.eq_iff_iff, Bool.and_eq_true, decide_eq_true_eq, List.mem_filter, List.mem_filterMap, List.any_eq_true]
    simp only [decide_eq_true_eq]
    rfl
  rw [denied, talker, listener, deniedStations, ← Bool.decide_or]
  exact decide_eq_decide.mpr List.mem_append.symm

/-- The record a ROUTE frame leaves, in the words of the passes. -/
theorem routed_cases (s : State) (ta : Address) (las : List Address) (n : StationNo) (r : StationRecord) : routed s ta las n r =
    if r.life = .retiring ∧ placed s n = true then r.clearPort.retire
    else if r.life ≠ .online then r.clearPort
    else
      let marked := noticedIf (denied s ta las n) .seatDenied (matchedBy (presented ta las) r.clearPort)
      if n ∈ (claimants s ta las).take 4 ∧ isOpen s n = false then transition s marked else marked := by
  unfold matchedBy
  rw [matchesRoute_clearPort]
  rfl

/-- The record that the three passes of a ROUTE frame leave: the addresses, the remote transition and the retirement. -/
theorem routed_eq {s : State} {ta : Address} {las : List Address} {n : StationNo} {r : StationRecord} (hr : s.record n = some r)
    (online : n ∈ seats s ta las → r.life = .online) : routed s ta las n r =
      let q := addressed (presented ta las) (decide (n ∈ deniedStations s ta las)) r
      let m := if n ∈ newListeners s ta las then transition s q else q
      if n ∈ releasedStations s then if decide (m.life = .retiring) then m.retire else m else m := by
  have leaves : n ∈ releasedStations s ↔ r.life = .retiring ∧ placed s n = true := by
    rw [releasedStations, List.mem_filter, Bool.and_eq_true, placed_eq, State.hasLife, hr, decide_eq_true_eq]
    exact and_iff_right (List.mem_finRange n)
  have listens : n ∈ (claimants s ta las).take 4 ∧ isOpen s n = false ↔ n ∈ newListeners s ta las := by
    rw [newListeners, List.mem_filter, Bool.not_eq_true']; rfl
  rw [routed_cases, denied_eq]
  dsimp only
  by_cases on : r.life = .online
  · have still : ¬ r.life = .retiring := by rw [on]; decide
    rw [if_neg fun c => still c.1, if_neg (not_not.mpr on), if_neg fun c => still (leaves.mp c).1, addressed, if_pos on]
    exact if_congr listens rfl rfl
  · have outside : ¬ n ∈ newListeners s ta las := fun c => on (online (List.mem_filter.mp c).1)
    have life : r.clearPort.life = r.life := by unfold StationRecord.clearPort; split <;> rfl
    rw [addressed, if_neg on, if_neg outside, if_pos on, life]
    by_cases gone : r.life = .retiring ∧ placed s n = true
    · rw [if_pos gone, if_pos (leaves.mpr gone), if_pos (decide_eq_true gone.1)]
    · rw [if_neg gone, if_neg fun c => gone (leaves.mp c)]

theorem routeNotified_eq (s : State) (ta : Address) (las : List Address) : routeNotified s ta las =
    deniedStations s ta las ++ (newListeners s ta las).filter (fun n => s.remoteEnable && having s inLocal n) ++
      (releasedStations s).filter (having s fun r => decide (r.life = .retiring)) := by
  have modes : ((claimants s ta las).take 4).filter (fun n => !isOpen s n && s.remoteEnable &&
      having s (fun r => decide (r.mode = .unlockedLocal ∨ r.mode = .lockedLocal)) n) =
        (newListeners s ta las).filter (fun n => s.remoteEnable && having s inLocal n) := by
    rw [newListeners, List.filter_filter]
    refine List.filter_congr fun n _ => ?_
    rw [Bool.and_comm _ (!isOpen s n), Bool.and_assoc]
    rfl
  have gone : (List.finRange 32).filter (fun n => placed s n && having s (fun r => decide (r.life = .retiring)) n) =
      (releasedStations s).filter (having s fun r => decide (r.life = .retiring)) := by
    rw [releasedStations, List.filter_filter]
    refine List.filter_congr fun n _ => ?_
    have life : s.hasLife n .retiring = having s (fun r => decide (r.life = .retiring)) n := by
      unfold State.hasLife having
      cases s.record n <;> rfl
    rw [placed_eq, life, ← Bool.and_assoc, Bool.and_self, Bool.and_comm]
  rw [routeNotified, modes, gone]
  rfl

/-- Steps 1 to 4 of a ROUTE frame: the state once the new listeners have their modes (R61 to R66). -/
structure Transited (s : State) (ta : Address) (las : List Address) (t : State) : Prop where
  records : ∀ n, t.record n = (s.record n).map fun r =>
    let q := addressed (presented ta las) (decide (n ∈ deniedStations s ta las)) r
    if n ∈ newListeners s ta las then transition s q else q
  notified : Notified s t (deniedStations s ta las ++ (newListeners s ta las).filter fun n => s.remoteEnable && having s inLocal n)

theorem Seated.transited {s : State} {ta : Address} {las : List Address} {p : RoutePass} (h : Seated s ta las p) :
    Transited s ta las (p.state.forStations (newListeners s ta las) fun n t => t.remoteTransition n) where
  records n := by
    rw [(reaches_remoteTransition s).record_pass _ (nodup_newListeners s ta las) _ h.addressed.remoteEnable, h.addressed.records]
    cases s.record n with
    | none => exact ite_self _
    | some r => exact (apply_ite some _ _ _).symm
  notified := by
    refine h.addressed.notified.pass (reaches_remoteTransition s) h.addressed.remoteEnable (nodup_newListeners s ta las) _ fun n r hr => ?_
    rw [notices_transition, ← h.addressed.having_eq n fun _ _ _ _ => rfl, having_of_record hr]

/-- What is neither a record nor the notice list may change. -/
theorem Transited.of_frame {s t u : State} {ta : Address} {las : List Address} (h : Transited s ta las t)
    (stations : u.stations = t.stations) (list : u.noticeList = t.noticeList) : Transited s ta las u where
  records n := (State.record_congr stations n).trans (h.records n)
  notified := h.notified.of_frame stations list

/-- No record's life state changes before the retirements. -/
theorem Transited.life {s t : State} {ta : Address} {las : List Address} (h : Transited s ta las t) (n : StationNo) {q : StationRecord}
    (hq : t.record n = some q) : ∃ r, s.record n = some r ∧ q.life = r.life := by
  rw [h.records] at hq
  obtain ⟨r, hr, rfl⟩ := Option.map_eq_some_iff.mp hq
  refine ⟨r, hr, ?_⟩
  obtain ⟨port, matched, notices, e⟩ := addressed_fields (presented ta las) (decide (n ∈ deniedStations s ta las)) r
  dsimp only
  rw [e, transition_eq]
  split
  · split <;> rfl
  · rfl

/-- Step 6: the released stations become RETIRED (R21, R62). -/
theorem Transited.retire {s t : State} {ta : Address} {las : List Address} (h : Transited s ta las t) (released : Released t)
    (online : ∀ n r, s.record n = some r → n ∈ seats s ta las → r.life = .online) :
    (∀ n, (t.forStations (releasedStations s) State.reportRelease).record n = (s.record n).map (routed s ta las n)) ∧
      (t.forStations (releasedStations s) State.reportRelease).noticeList =
        s.noticeList ++ (quietOnes s (routeNotified s ta las)).eraseDups := by
  have nodup : (releasedStations s).Nodup := (List.nodup_finRange 32).filter _
  refine ⟨fun n => ?_, ?_⟩
  · rw [reaches_release.record_pass _ nodup t released, h.records]
    cases hr : s.record n with
    | none => exact ite_self _
    | some r =>
      rw [Option.map_some, Option.map_some, Option.map_some, routed_eq hr (online n r hr)]
      exact (apply_ite some _ _ _).symm
  · rw [routeNotified_eq]
    refine (h.notified.pass reaches_release released nodup (having s fun r => decide (r.life = .retiring)) fun n q hq => ?_).list
    obtain ⟨r, hr, life⟩ := h.life n hq
    rw [having_of_record hr, life]
    by_cases retiring : r.life = .retiring
    · have given : q.retire.notices ≠ NoticeSet.none := retiredNotices_ne_none _
      simp [retiring, given]
    · simp [retiring]

/-- Before the retirements only stations with a place in the new route have an obligation (R19). -/
theorem placed_of_obliged {late : List StationNo} {p : RoutePass} {t : State} {n : StationNo} (good : p.Good late)
    (places : ∀ i, t.place i = p.state.place i) (stage : t.stage = p.state.stage)
    (held : Held t n → Held p.state n ∨ n ∈ p.tentative.map Prod.fst) (obliged : Obliged t n) : Placed p.state n := by
  rcases obliged with ⟨i, q, hq, e⟩ | pending | ⟨g, hg, _⟩
  · exact ⟨i, q, (places i).symm.trans hq, e⟩
  · rcases held pending with before | tentative
    · exact absurd before (State.not_held_of_empty good.holds n)
    · obtain ⟨i, hi⟩ := (good.laws.ports n).mpr (.inl tentative)
      exact ⟨i, _, hi, rfl⟩
  · rw [stage, good.stage] at hg; cases hg

/-- The steps of R61 behind the resolution of the addresses. -/
theorem takeRoute_eq {s : State} {ta : Address} {las : List Address} {p : RoutePass} (seated : Seated s ta las p)
    (hp : las.foldl RoutePass.seatListener (s.emptyRoute.clearAcceptedPorts.seatTalker ta) = p) : s.takeRoute ta las =
      (p.tentative.foldl State.raisePortHold (p.state.forStations (newListeners s ta las) fun n t => t.remoteTransition n)).forStations
        (releasedStations s) State.reportRelease := by
  rw [← seated.listeners_eq, ← hp]
  rfl

/-- A ROUTE frame taken while no hold is pending and the stage is empty (R61). -/
theorem takeRoute_records {s : State} (laws : s.Laws [] []) (law : s.addressLaw) (holds : s.holds = []) (stage : s.stage = none)
    (ta : Address) (las : List Address) :
    (∀ n, (s.takeRoute ta las).record n = (s.record n).map (routed s ta las n)) ∧
      (s.takeRoute ta las).noticeList = s.noticeList ++ (quietOnes s (routeNotified s ta las)).eraseDups := by
  obtain ⟨emptied, blank⟩ := laws.emptied holds stage
  have good := (RoutePass.Good.seatTalker emptied blank ta).seatListeners las
  have seated := (Seated.seatTalker law (addressed_released s) (blank.places none) (fun i => blank.places (some i)) ta).seatListeners law las
  obtain ⟨p, hp⟩ : ∃ p, las.foldl RoutePass.seatListener (s.emptyRoute.clearAcceptedPorts.seatTalker ta) = p := ⟨_, rfl⟩
  rw [hp] at good seated
  rw [takeRoute_eq seated hp]
  have online (n : StationNo) (r : StationRecord) (hr : s.record n = some r) (placed : Placed p.state n) : r.life = .online := by
    obtain ⟨q, hq, online⟩ := seated.online placed
    exact Option.some.inj (hq.symm.trans hr) ▸ online
  have transited := seated.transited
  have passFrame := (reaches_remoteTransition s).frame_pass (newListeners s ta las) p.state
  generalize p.state.forStations (newListeners s ta las) (fun n t => t.remoteTransition n) = u at transited passFrame
  have raised := raisePortHolds_frame p.tentative u
  have held (n : StationNo) := held_raisePortHolds (n := n) p.tentative (s := u)
  generalize p.tentative.foldl State.raisePortHold u = v at raised held
  have before : Transited s ta las v := transited.of_frame (by rw [raised]) (by rw [raised])
  refine before.retire (fun n q hq retiring obliged => ?_) fun n r hr listens => online n r hr ((seated.placed_iff n).mpr (.inr listens))
  obtain ⟨r, hr, life⟩ := before.life n hq
  have placed : Placed p.state n := by
    refine placed_of_obliged good (fun i => ?_) ?_ (fun h => ?_) obliged
    · rw [raised, passFrame]
      rfl
    · rw [raised, passFrame]
    · have pending := held n h
      rw [passFrame] at pending
      exact pending
  rw [life, online n r hr placed] at retiring
  cases retiring

/-- Settles O24: the frame is taken at its end, when no hold is pending and the stage is empty; its passes leave the records and the notices. -/
theorem routeRecords : Obligations.RouteRecords := by
  intro s talker listeners ta las inv ⟨on, receiving⟩ body
  have idle := inv.link.idle on receiving
  have taken : exec (.route talker listeners) s = .next (s.frameOver.takeRoute ta las) := by
    rw [exec_of_rowFrame (c := .route talker listeners) body, s.frameEnds_taken _ on receiving]
    rfl
  have laws : s.frameOver.Laws [] [] := inv.laws.retouch (.of_frame ⟨rfl, rfl, rfl, rfl, rfl⟩ rfl rfl rfl rfl)
  exact ⟨_, taken, takeRoute_records laws inv.addresses idle.1 idle.2 ta las⟩

end Sys2Proof.Proofs

/-! ## READ ROUTE as its rules state it -/

namespace Sys2Proof.Proofs

-- One theorem after the other: each thread of its own would take a stack.
set_option Elab.async false

open Sys2Proof Sys2Proof.Machine Sys2Proof.Claims

/-- A place as its byte: the station with the tentative mark in bit 7, 255 for an empty place (R172). -/
theorem placeByte_eq (p : Option Place) : placeByte p = (match p with
    | none => (255 : Byte)
    | some p => BitVec.ofNat 8 (p.station.val + (if p.tentative then 128 else 0))) := by
  have marked : ∀ (n : StationNo) (b : Bool), stationByte n ||| bitAt b 7 = BitVec.ofNat 8 (n.val + (if b then 128 else 0)) := by decide
  cases p with
  | none => rfl
  | some p => exact marked p.station p.tentative

/-- Settles O59: the command writes the bytes of the five places, the flag and the station, and its block changes nothing. -/
theorem readRoute : Obligations.ReadRoute := by
  intro s ready
  have row : exec .readRoute s = .next (readRouteCommand s.params (s.accept 0x50)).finish :=
    congrArg Host.Outcome.next (Ready.issue ready 0x50 readRouteCommand)
  have flag : bitAt s.device.laneOverflow 0 = if s.device.laneOverflow then 1 else 0 := rfl
  have results : (readRouteCommand s.params (s.accept 0x50)).bytes = [(0, placeByte (s.place none)), (1, placeByte (s.place (some 0))),
      (2, placeByte (s.place (some 1))), (3, placeByte (s.place (some 2))), (4, placeByte (s.place (some 3))),
      (5, bitAt s.device.laneOverflow 0), (6, BitVec.ofNat 8 s.deniedStation.val)] := rfl
  rw [row, CommandOutcome.finish, results, flag]
  simp only [placeByte_eq]
  rfl

end Sys2Proof.Proofs

/-! ## The seats of a ROUTE frame as its rules state them -/

namespace Sys2Proof.Proofs

-- One theorem after the other: each thread of its own would take a stack.
set_option Elab.async false

open Sys2Proof Sys2Proof.Machine Sys2Proof.Claims

/-! ### What the resolution of one address does -/

/-- The talker: it takes the talk seat if it may talk, and is denied it otherwise (R63). -/
theorem seatTalker_eq {s t : State} (h : Addressed s t [] []) (ta : Address) : t.seatTalker ta =
    match talkHit s ta with
    | none => ⟨t, []⟩
    | some n =>
      if having s (fun r => r.mayTalk) n then
        ⟨{ t.writeMatch n ta with talkSeat := some (seatFor s n) }, if isOpen s n then [(n, ta)] else []⟩
      else ⟨visit ta true n t, []⟩ := by
  unfold State.seatTalker talkHit
  by_cases silent : ta.unit.val = 127
  · rw [if_pos (Fin.ext silent), if_pos silent]
  · rw [if_neg fun e => silent (congrArg Fin.val e), if_neg silent, h.resolve]
    cases hn : hit s ta with
    | none => rfl
    | some n =>
      have opened : t.onlineWith n (fun r => decide (r.policy = .openPort)) = isOpen s n := h.onlineWith_hit hn fun _ _ _ _ => rfl
      dsimp only
      rw [h.onlineWith_hit hn fun _ _ _ _ => rfl, opened, seatFor]
      cases having s (fun r => r.mayTalk) n with
      | false => rfl
      | true => cases isOpen s n <;> rfl

/-- A listener entry that matches a station takes the first case of R64 that applies (R64, R65). -/
theorem Seated.seatListener_eq {s : State} {ta : Address} {as : List Address} {p : RoutePass} {a : Address} {n : StationNo}
    (h : Seated s ta as p) (hn : hit s a = some n) : p.seatListener a =
      if unseated s ta as n = false then { p with state := visit a false n p.state }
      else if having s (fun r => r.mayListen) n = false then { p with state := visit a true n p.state }
      else if room : (seats s ta as).length < 4 then
        ⟨(p.state.writeMatch n a).setLane ⟨(seats s ta as).length, room⟩ (some (seatFor s n)),
          p.tentative ++ if isOpen s n then [(n, a)] else []⟩
      else { p with state := (visit a true n p.state).laneOverflow n } := by
  have opened : p.state.onlineWith n (fun r => decide (r.policy = .openPort)) = isOpen s n :=
    h.addressed.onlineWith_hit hn fun _ _ _ _ => rfl
  unfold RoutePass.seatListener
  dsimp only
  rw [h.addressed.resolve, hn]
  dsimp only
  rw [h.hasPlace_eq, h.addressed.onlineWith_hit hn fun _ _ _ _ => rfl, opened, emptyLane_of_filled h.lanes, seatFor]
  cases unseated s ta as n with
  | false => rfl
  | true =>
    cases having s (fun r => r.mayListen) n with
    | false => rfl
    | true =>
      by_cases room : (seats s ta as).length < 4
      · simp only [dif_pos room]
        cases isOpen s n <;> simp
      · simp only [dif_neg room]
        rfl

theorem Seated.seatListener_miss {s : State} {ta : Address} {as : List Address} {p : RoutePass} {a : Address} (h : Seated s ta as p)
    (nowhere : hit s a = none) : p.seatListener a = p := by
  unfold RoutePass.seatListener
  dsimp only
  rw [h.addressed.resolve, nowhere]

/-! ### The tentative places -/

/-- The first listener entry that matches the station (R67). -/
def firstEntry (s : State) (las : List Address) (n : StationNo) : Option Address := las.find? fun a => decide (hit s a = some n)

/-- The tentative places with the address that matched each: the talk seat, then the lanes in lane order (R67). -/
def tentativeSeats (s : State) (ta : Address) (las : List Address) : List (StationNo × Address) :=
  ((talkerOf s ta).toList.filter (isOpen s)).map (fun n => (n, ta)) ++
    ((seats s ta las).filter (isOpen s)).filterMap fun n => (firstEntry s las n).map fun a => (n, a)

/-- Each tentative place gets its PORT hold (R67). -/
theorem portHolds_eq (s : State) (ta : Address) (las : List Address) :
    portHolds s ta las = (tentativeSeats s ta las).map fun e => (e.1, portHold e.2) := by
  simp only [portHolds, tentativeSeats, List.map_append, List.map_map, List.map_filterMap, Option.map_map]
  rfl

section
variable {s : State} (ta : Address) {as : List Address} {a : Address} {n : StationNo}

theorem firstEntry_concat_of_hit (hn : n ∈ as.filterMap (hit s)) (a : Address) : firstEntry s (as ++ [a]) n = firstEntry s as n := by
  obtain ⟨b, hb, e⟩ := List.mem_filterMap.mp hn
  have found : (firstEntry s as n).isSome = true := List.find?_isSome.mpr ⟨b, hb, decide_eq_true e⟩
  rw [firstEntry, List.find?_append]
  exact Option.or_of_isSome found

theorem firstEntry_concat_new (hn : n ∉ as.filterMap (hit s)) (ha : hit s a = some n) : firstEntry s (as ++ [a]) n = some a := by
  have missed : firstEntry s as n = none :=
    List.find?_eq_none.mpr fun b hb e => hn (List.mem_filterMap.mpr ⟨b, hb, of_decide_eq_true e⟩)
  rw [firstEntry, List.find?_append, show as.find? _ = none from missed, Option.none_or]
  exact List.find?_cons_of_pos (decide_eq_true ha)

theorem matched_of_mem_seats (hn : n ∈ seats s ta as) : n ∈ as.filterMap (hit s) := ((mem_claimants ta as).mp (List.mem_of_mem_take hn)).1

/-- The tentative lanes keep the entries that matched them. -/
theorem firstEntries_concat (ns : List StationNo) (sub : ∀ m ∈ ns, m ∈ seats s ta as) (a : Address) :
    ns.filterMap (fun m => (firstEntry s (as ++ [a]) m).map fun b => (m, b)) =
      ns.filterMap fun m => (firstEntry s as m).map fun b => (m, b) :=
  List.filterMap_congr fun m hm => by rw [firstEntry_concat_of_hit (matched_of_mem_seats ta (sub m hm)) a]

theorem tentativeSeats_concat_same (a : Address) (same : seats s ta (as ++ [a]) = seats s ta as) :
    tentativeSeats s ta (as ++ [a]) = tentativeSeats s ta as := by
  rw [tentativeSeats, same, tentativeSeats]
  exact congrArg _ (firstEntries_concat ta _ (fun m hm => List.mem_of_mem_filter hm) a)

theorem tentativeSeats_concat_grown (ha : hit s a = some n) (new : n ∉ as.filterMap (hit s))
    (grown : seats s ta (as ++ [a]) = seats s ta as ++ [n]) :
    tentativeSeats s ta (as ++ [a]) = tentativeSeats s ta as ++ if isOpen s n then [(n, a)] else [] := by
  have before := firstEntries_concat ta ((seats s ta as).filter (isOpen s)) (fun m hm => List.mem_of_mem_filter hm) a
  have last : ([n].filter (isOpen s)).filterMap (fun m => (firstEntry s (as ++ [a]) m).map fun b => (m, b)) =
      if isOpen s n then [(n, a)] else [] := by
    cases opens : isOpen s n <;> simp [opens, firstEntry_concat_new new ha]
  rw [tentativeSeats, grown, List.filter_append, List.filterMap_append, ← List.append_assoc, tentativeSeats]
  exact congrArg₂ _ (congrArg _ before) last

/-- With an empty lane every claimant has one, so that a new claimant was not matched before. -/
theorem unmatched_of_unseated (room : (seats s ta as).length < 4) (free : unseated s ta as n = true)
    (listens : having s (fun r => r.mayListen) n = true) : n ∉ as.filterMap (hit s) := by
  intro hn
  obtain ⟨talks, out⟩ := (unseated_iff ..).mp free
  have all : seats s ta as = claimants s ta as := List.take_of_length_le (by rw [seats, List.length_take] at room; omega)
  exact out (all ▸ (mem_claimants ta as).mpr ⟨hn, listens, talks⟩)

end

/-! ### The stations denied for want of a lane -/

/-- The flag LANE_OVERFLOW and DENIED_STATION once the stations `cs` have claimed lanes in this order: the fifth is denied (R65). -/
def overflowed (s : State) (cs : List StationNo) : State :=
  { s with
    device := { s.device with laneOverflow := s.device.laneOverflow || decide (4 < cs.length) }
    deniedStation := if s.device.laneOverflow then s.deniedStation else (cs[4]?).getD s.deniedStation }

/-- Four lanes suffice for four claimants. -/
theorem overflowed_of_few (s : State) {cs : List StationNo} (few : cs.length ≤ 4) : overflowed s cs = s := by
  simp [overflowed, Nat.not_lt.mpr few]

/-- A further denial is no news (R65). -/
theorem laneOverflow_overflowed_of_many (s : State) {cs : List StationNo} (many : 4 < cs.length) (n : StationNo) :
    (overflowed s cs).laneOverflow n = overflowed s cs :=
  if_pos (by simp [overflowed, many])

/-- A further claimant that finds no lane is denied, and captured if it is the first (R65). -/
theorem laneOverflow_overflowed_concat (s : State) {cs : List StationNo} (full : 4 ≤ cs.length) (n : StationNo) :
    (overflowed s cs).laneOverflow n = overflowed s (cs ++ [n]) := by
  rcases Nat.lt_or_eq_of_le full with many | four
  · rw [laneOverflow_overflowed_of_many s many]
    have fifth : (cs ++ [n])[4]? = cs[4]? := List.getElem?_append_left many
    simp only [overflowed, fifth, List.length_append, List.length_singleton, many, Nat.lt_succ_of_lt many]
  · have fifth : (cs ++ [n])[4]? = some n := by rw [four, List.getElem?_concat_length]
    have more : decide (4 < (cs ++ [n]).length) = true := decide_eq_true (by simp [← four])
    rw [overflowed_of_few s (Nat.le_of_eq four.symm), State.laneOverflow, overflowed, fifth, more, Bool.or_true]
    split
    · next flag => rw [← flag]
    · rfl

section
variable {s : State} (ta : Address) (as : List Address) {a : Address} {n : StationNo}

/-- A station with a seat claims no further lane (R64). -/
theorem claimants_concat_of_seated (hn : hit s a = some n) (seated : unseated s ta as n = false) :
    claimants s ta (as ++ [a]) = claimants s ta as := by
  rw [claimants_concat_hit ta as hn]
  refine if_neg fun ⟨_, talks, out⟩ => ?_
  exact Bool.false_ne_true (seated.symm.trans ((unseated_iff ..).mpr ⟨talks, fun c => out (List.mem_of_mem_take c)⟩))

/-- A station that may not listen claims no lane (R64). -/
theorem claimants_concat_of_silent (hn : hit s a = some n) (silent : having s (fun r => r.mayListen) n = false) :
    claimants s ta (as ++ [a]) = claimants s ta as := by
  rw [claimants_concat_hit ta as hn]
  exact if_neg fun ⟨listens, _⟩ => Bool.false_ne_true (silent.symm.trans listens)

/-- A claimant that finds no lane is denied (R65). -/
theorem overflowed_concat_denied (hn : hit s a = some n) (free : unseated s ta as n = true)
    (listens : having s (fun r => r.mayListen) n = true) (full : ¬ (seats s ta as).length < 4) :
    overflowed s (claimants s ta (as ++ [a])) = (overflowed s (claimants s ta as)).laneOverflow n := by
  obtain ⟨talks, out⟩ := (unseated_iff ..).mp free
  have four : 4 ≤ (claimants s ta as).length := by rw [seats, List.length_take] at full; omega
  rw [claimants_concat_hit ta as hn]
  by_cases old : n ∈ claimants s ta as
  · -- The station was denied before: it stands behind the four that have lanes.
    have many : 4 < (claimants s ta as).length := by
      by_contra few
      exact out (by rwa [seats, List.take_of_length_le (Nat.not_lt.mp few)])
    rw [if_neg fun c => c.2.2 old, laneOverflow_overflowed_of_many s many]
  · rw [if_pos ⟨listens, talks, old⟩, laneOverflow_overflowed_concat s four]

/-- A claimant that finds a lane is not denied (R64). -/
theorem overflowed_concat_taken (hn : hit s a = some n) (room : (seats s ta as).length < 4) :
    overflowed s (claimants s ta (as ++ [a])) = overflowed s (claimants s ta as) := by
  have few : (claimants s ta as).length < 4 := by rw [seats, List.length_take] at room; omega
  have still : (claimants s ta (as ++ [a])).length ≤ 4 := by
    rw [claimants_concat_hit ta as hn]
    split
    · rw [List.length_append, List.length_singleton]; omega
    · exact Nat.le_of_lt few
  rw [overflowed_of_few s still, overflowed_of_few s (Nat.le_of_lt few)]

end

/-! ### What a ROUTE frame leaves alone -/

/-- Only the records, the notice list and the route may differ. -/
def RouteOnly (s t : State) : Prop :=
  t = { s with stations := t.stations, noticeList := t.noticeList, talkSeat := t.talkSeat, lanes := t.lanes }

theorem RouteOnly.trans {s t u : State} (h : RouteOnly s t) (g : RouteOnly t u) : RouteOnly s u := by
  unfold RouteOnly at h g ⊢
  rw [g, h]

theorem routeOnly_released (s : State) : RouteOnly s s.emptyRoute.clearAcceptedPorts := by
  unfold RouteOnly
  rw [clearAcceptedPorts_frame]
  rfl

theorem routeOnly_visit (a : Address) (denied : Bool) (n : StationNo) (t : State) : RouteOnly t (visit a denied n t) := by
  unfold RouteOnly
  rw [(reaches_visit a denied).frame n t]

theorem RouteOnly.laneOverflow {s t : State} (h : RouteOnly s t) (n : StationNo) : RouteOnly (s.laneOverflow n) (t.laneOverflow n) := by
  unfold RouteOnly State.laneOverflow at *
  have flag : t.device = s.device := by rw [h]
  rw [flag]
  split
  · exact h
  · rw [h]

/-- After the talker address and the listener entries `as` of a ROUTE frame: the tentative places noted for their holds, and all that may
differ (R65, R67). -/
structure Reported (s : State) (ta : Address) (as : List Address) (p : RoutePass) : Prop where
  tentative : p.tentative = tentativeSeats s ta as
  frame : RouteOnly (overflowed s (claimants s ta as)) p.state

/-- Without a listener entry there is no lane to deny. -/
theorem Reported.of_no_entry {s : State} {ta : Address} {p : RoutePass} (frame : RouteOnly s p.state)
    (tentative : p.tentative = ((talkerOf s ta).toList.filter (isOpen s)).map fun n => (n, ta)) : Reported s ta [] p where
  tentative := tentative.trans (List.append_nil _).symm
  frame := (overflowed_of_few s (cs := claimants s ta []) (Nat.zero_le 4)).symm ▸ frame

theorem Reported.seatTalker {s t : State} (h : Addressed s t [] []) (frame : RouteOnly s t) (ta : Address) :
    Reported s ta [] (t.seatTalker ta) := by
  rw [seatTalker_eq h]
  cases asked : talkHit s ta with
  | none => exact .of_no_entry frame (by rw [talkerOf_eq, asked]; rfl)
  | some n =>
    have talker := talkerOf_of_hit asked
    dsimp only
    cases talks : having s (fun r => r.mayTalk) n with
    | false =>
      rw [talks] at talker
      exact .of_no_entry (frame.trans (routeOnly_visit ta true n t)) (by rw [talker]; rfl)
    | true =>
      rw [talks] at talker
      refine .of_no_entry (frame.trans rfl) ?_
      rw [talker]
      cases opens : isOpen s n <;> simp [opens]

theorem Reported.seatListener {s : State} {ta : Address} {as : List Address} {p : RoutePass} (h : Reported s ta as p)
    (seated : Seated s ta as p) (a : Address) : Reported s ta (as ++ [a]) (p.seatListener a) := by
  cases hn : hit s a with
  | none =>
    rw [seated.seatListener_miss hn]
    exact ⟨by rw [tentativeSeats_concat_same ta a (seats_concat_miss ta as hn)]; exact h.tentative,
      by rw [claimants_concat_miss ta as hn]; exact h.frame⟩
  | some n =>
    have grown := seats_concat_hit ta as hn
    rw [seated.seatListener_eq hn]
    cases free : unseated s ta as n with
    | false =>
      rw [if_neg (by simp [free])] at grown
      exact ⟨by rw [tentativeSeats_concat_same ta a grown]; exact h.tentative,
        by rw [claimants_concat_of_seated ta as hn free]; exact h.frame.trans (routeOnly_visit a false n _)⟩
    | true =>
      cases listens : having s (fun r => r.mayListen) n with
      | false =>
        rw [if_neg (by simp [listens])] at grown
        exact ⟨by rw [tentativeSeats_concat_same ta a grown]; exact h.tentative,
          by rw [claimants_concat_of_silent ta as hn listens]; exact h.frame.trans (routeOnly_visit a true n _)⟩
      | true =>
        by_cases room : (seats s ta as).length < 4
        · rw [if_pos ⟨free, listens, room⟩] at grown
          rw [dif_pos room]
          refine ⟨?_, by rw [overflowed_concat_taken ta as hn room]; exact h.frame.trans rfl⟩
          rw [tentativeSeats_concat_grown ta hn (unmatched_of_unseated ta room free listens) grown]
          exact congrArg (· ++ _) h.tentative
        · rw [if_neg fun c => room c.2.2] at grown
          rw [dif_neg room]
          exact ⟨by rw [tentativeSeats_concat_same ta a grown]; exact h.tentative,
            by rw [overflowed_concat_denied ta as hn free listens room]; exact (h.frame.trans (routeOnly_visit a true n _)).laneOverflow n⟩

theorem Reported.seatListeners {s : State} (law : s.addressLaw) {ta : Address} {p : RoutePass} (h : Reported s ta [] p)
    (seated : Seated s ta [] p) (as : List Address) : Reported s ta as (as.foldl RoutePass.seatListener p) := by
  induction as using List.reverseRecOn with
  | nil => exact h
  | append_singleton as a ih =>
    rw [List.foldl_append]
    exact ih.seatListener (seated.seatListeners law as) a

/-! ### The PORT holds -/

theorem startTimer_eq (s : State) : s.startTimer = timer s := by
  have zero : s.holdLimit = 0 ↔ s.holdLimit.toNat = 0 := BitVec.toNat_eq
  exact if_congr zero rfl rfl

theorem raised_concat (s : State) (hs : List (StationNo × HoldKind)) (h : StationNo × HoldKind) :
    raised s (hs ++ [h]) = raised s hs ++ [⟨h.1, h.2, s.holdTag + BitVec.ofNat 8 hs.length, timer s⟩] := by
  simp [raised, List.zipIdx_append]

/-- The holds go to the tail of the list in the order of the places, with consecutive tags (R67, R77, R78). -/
theorem raisePortHolds_eq (s : State) (es : List (StationNo × Address)) (ports : ∀ e ∈ es, e.2.port ≠ none) :
    es.foldl State.raisePortHold s =
      { s with
        holds := s.holds ++ raised s (es.map fun e => (e.1, portHold e.2))
        holdTag := s.holdTag + BitVec.ofNat 8 es.length } := by
  induction es using List.reverseRecOn with
  | nil => simp [raised]
  | append_singleton es e ih =>
    obtain ⟨q, hq⟩ := Option.ne_none_iff_exists'.mp (ports e (by simp))
    have raise (t : State) : t.raisePortHold e = t.raiseHold e.1 (portHold e.2) := by rw [State.raisePortHold, portHold, hq]; rfl
    have next : s.holdTag + BitVec.ofNat 8 (es ++ [e]).length = s.holdTag + BitVec.ofNat 8 es.length + 1 := by
      rw [List.length_append, List.length_singleton, BitVec.ofNat_add, ← BitVec.add_assoc]
      rfl
    rw [List.foldl_append, ih fun e' he' => ports e' (List.mem_append_left _ he'), List.foldl_cons, List.foldl_nil, raise,
      List.map_append, List.map_singleton, raised_concat, List.length_map, next, ← List.append_assoc, ← startTimer_eq]
    rfl

/-! ### The whole frame -/

/-- The holds of the tentative places, raised where the hold list is empty. -/
theorem raisePortHolds_of_routeOnly {s u : State} (h : RouteOnly s u) (holds : s.holds = []) {es : List (StationNo × Address)}
    (ports : ∀ e ∈ es, e.2.port ≠ none) :
    es.foldl State.raisePortHold u =
      { u with
        holds := raised s (es.map fun e => (e.1, portHold e.2))
        holdTag := s.holdTag + BitVec.ofNat 8 (es.map fun e => (e.1, portHold e.2)).length } := by
  have empty : u.holds = [] := by rw [h]; exact holds
  have tag : u.holdTag = s.holdTag := by rw [h]
  have same (hs : List (StationNo × HoldKind)) : raised u hs = raised s hs := by rw [h]; rfl
  rw [raisePortHolds_eq u es ports, empty, List.nil_append, same, tag, List.length_map]

/-- What a ROUTE frame leaves, taken while no hold is pending and the stage is empty (R61 to R65, R67). -/
theorem takeRoute_seats {s : State} (laws : s.Laws [] []) (law : s.addressLaw) (holds : s.holds = []) (stage : s.stage = none)
    (ta : Address) (las : List Address) :
    (s.takeRoute ta las).talkSeat = (talkerOf s ta).map (seatFor s) ∧
    (∀ i : LaneNo, (s.takeRoute ta las).lane i = ((seats s ta las)[i.val]?).map (seatFor s)) ∧
    RouteOnly
      { overflowed s (claimants s ta las) with
        holds := raised s (portHolds s ta las)
        holdTag := s.holdTag + BitVec.ofNat 8 (portHolds s ta las).length }
      (s.takeRoute ta las) := by
  obtain ⟨emptied, blank⟩ := laws.emptied holds stage
  have start := addressed_released s
  have good := (RoutePass.Good.seatTalker emptied blank ta).seatListeners las
  have talker := Seated.seatTalker law start (blank.places none) (fun i => blank.places (some i)) ta
  have seated := talker.seatListeners law las
  have reported := (Reported.seatTalker start (routeOnly_released s) ta).seatListeners law talker las
  obtain ⟨p, hp⟩ : ∃ p, las.foldl RoutePass.seatListener (s.emptyRoute.clearAcceptedPorts.seatTalker ta) = p := ⟨_, rfl⟩
  rw [hp] at good seated reported
  rw [takeRoute_eq seated hp]
  have transited := (reaches_remoteTransition s).frame_pass (newListeners s ta las) p.state
  generalize p.state.forStations (newListeners s ta las) (fun n t => t.remoteTransition n) = u at transited
  have frame : RouteOnly (overflowed s (claimants s ta las)) u := reported.frame.trans (by rw [transited]; rfl)
  have raise := raisePortHolds_of_routeOnly frame holds good.ports
  rw [reported.tentative, ← portHolds_eq] at raise
  rw [reported.tentative, raise, reaches_release.frame_pass]
  have talkSeat : u.talkSeat = p.state.talkSeat := by rw [transited]
  have lanes : u.lanes = p.state.lanes := by rw [transited]
  refine ⟨talkSeat.trans seated.talkSeat, fun i => (State.lane_congr lanes i).trans (seated.lanes i), ?_⟩
  unfold RouteOnly at frame ⊢
  rw [frame]
  rfl

/-- Settles O23: the frame is taken at its end, when no hold is pending and the stage is empty; its passes leave the seats, the holds and the
station denied a lane. -/
theorem routeSeats : Obligations.RouteSeats := by
  intro s talker listeners ta las inv ⟨on, receiving⟩ body
  have idle := inv.link.idle on receiving
  have taken : exec (.route talker listeners) s = .next (s.frameOver.takeRoute ta las) := by
    rw [exec_of_rowFrame (c := .route talker listeners) body, s.frameEnds_taken _ on receiving]
    rfl
  have laws : s.frameOver.Laws [] [] := inv.laws.retouch (.of_frame ⟨rfl, rfl, rfl, rfl, rfl⟩ rfl rfl rfl rfl)
  obtain ⟨talkSeat, lanes, frame⟩ := takeRoute_seats laws inv.addresses idle.1 idle.2 ta las
  have lane (i : LaneNo) : ((claimants s ta las).take 4)[i.val]? = (claimants s ta las)[i.val]? := List.getElem?_take_of_lt i.isLt
  refine ⟨_, taken, talkSeat, fun i => (lanes i).trans (congrArg _ (lane i)), ?holds, ?holdTag, ?device, ?denied, ?frame⟩
  all_goals
    rw [frame]
    rfl

end Sys2Proof.Proofs

/-! ## ANSWER HOLD on a RETIRING station as its rules state it -/

namespace Sys2Proof.Proofs

-- One theorem after the other: each thread of its own would take a stack.
set_option Elab.async false

open Sys2Proof Sys2Proof.Machine Sys2Proof.Claims

/-! ### One station's notices -/

/-- The notice list once the record of a station has become another: the station joins it with its first notice (R155). -/
def joinsIf (s : State) (n : StationNo) (r q : StationRecord) : List StationNo :=
  if q.notices = r.notices then s.noticeList else joins s n r

/-- A notice on a record at hand (R155). -/
theorem addNotice_eq {s : State} {n : StationNo} {r : StationRecord} (hr : s.record n = some r) (k : NoticeKind) :
    s.addNotice n k = { s.setRecord n (some { r with notices := r.notices.add k }) with noticeList := joins s n r } := by
  rw [State.addNotice, State.changeNotices, hr, joins]
  simp only [NoticeSet.isEmpty_iff]

/-- The clear effects on a record at hand (R146). -/
theorem clearStation_eq {s : State} {n : StationNo} {r : StationRecord} (hr : s.record n = some r) :
    s.clearStation n = { s.setRecord n (some (cleared r)) with noticeList := joins s n r } := by
  have changed := updateRecord_eq_setRecord hr fun r => { r with inbound := r.inbound.dropFilling, outbound := .empty }
  rw [State.clearStation, changed, addNotice_eq (State.record_setRecord_self ..), setRecord_setRecord]
  rfl

theorem joinsIf_self (s : State) (n : StationNo) (r : StationRecord) : joinsIf s n r r = s.noticeList := if_pos rfl

/-- The two notice lists of the statement: a RETIRED station has a new notice in any case. -/
theorem joinsIf_ite (s : State) (n : StationNo) (r q : StationRecord) (stays : Bool) :
    (if stays then joinsIf s n r q else joins s n r) = if stays = true ∧ q.notices = r.notices then s.noticeList else joins s n r := by
  cases stays with
  | false => rfl
  | true => simp [joinsIf]

/-- A record that has a notice stands in the list, whether the notice is new or not (R155). -/
theorem joinsIf_of_noticed {s : State} {n : StationNo} {r q : StationRecord} (h : q.notices ≠ NoticeSet.none) :
    joinsIf s n r q = joins s n r := by
  unfold joinsIf
  split
  · next same => exact (if_neg (same ▸ h)).symm
  · rfl

/-! ### The verdict -/

/-- The record of a RETIRING station after a verdict on its hold, before its retirement: an accepted CLEAR clears and an accepted TRIGGER triggers
(R69, R84, R85). -/
def ruled (k : HoldKind) (accept : Bool) (r : StationRecord) : StationRecord :=
  match k with
  | .clear _ => if accept then cleared r else r
  | .trigger => if accept then { r with notices := { r.notices with triggered := true } } else r
  | _ => r

theorem life_ruled (k : HoldKind) (accept : Bool) (r : StationRecord) : (ruled k accept r).life = r.life := by
  cases k with
  | port | endOfMessage | privateFrame => rfl
  | clear | trigger => cases accept <;> rfl

/-- What a verdict on the hold of a station that is not ONLINE can do: it frees the place of a PORT hold, does nothing, or clears or triggers the
station with a notice (R69, R83 to R87). -/
theorem applyVerdict_cases {s : State} {h : Hold} {r : StationRecord} (hr : s.record h.station = some r)
    (offline : s.isOnline h.station = false) (accept : Bool) :
    ((∃ u q, h.kind = .port u q) ∧ ruled h.kind accept r = r ∧ s.applyVerdict h accept = s.freePlaces h.station) ∨
    ((∀ u q, h.kind ≠ .port u q) ∧ ruled h.kind accept r = r ∧ s.applyVerdict h accept = s) ∨
    ((∀ u q, h.kind ≠ .port u q) ∧ (ruled h.kind accept r).notices ≠ NoticeSet.none ∧ s.applyVerdict h accept =
      { s.setRecord h.station (some (ruled h.kind accept r)) with noticeList := joins s h.station r }) := by
  unfold State.applyVerdict
  cases h.kind with
  | port u q =>
    refine .inl ⟨⟨u, q, rfl⟩, rfl, ?_⟩
    rw [offline, Bool.and_false]
    rfl
  | clear scope =>
    cases accept with
    | false => exact .inr (.inl ⟨nofun, rfl, rfl⟩)
    | true => exact .inr (.inr ⟨nofun, r.notices.add_ne_none .cleared, clearStation_eq hr⟩)
  | trigger =>
    cases accept with
    | false => exact .inr (.inl ⟨nofun, rfl, rfl⟩)
    | true => exact .inr (.inr ⟨nofun, r.notices.add_ne_none .triggered, addNotice_eq hr .triggered⟩)
  | endOfMessage | privateFrame => exact .inr (.inl ⟨nofun, rfl, rfl⟩)

/-- What a verdict leaves of the records and the notice list. -/
theorem applyVerdict_records {s : State} {h : Hold} {r : StationRecord} (hr : s.record h.station = some r)
    (offline : s.isOnline h.station = false) (accept : Bool) :
    (∀ m, (s.applyVerdict h accept).record m = if m = h.station then some (ruled h.kind accept r) else s.record m) ∧
      (s.applyVerdict h accept).noticeList = joinsIf s h.station r (ruled h.kind accept r) ∧
      ((ruled h.kind accept r).notices = r.notices ∨ (ruled h.kind accept r).notices ≠ NoticeSet.none) := by
  have alone (m : StationNo) : s.record m = if m = h.station then some r else s.record m := by
    split
    · next e => exact e ▸ hr
    · rfl
  rcases applyVerdict_cases hr offline accept with ⟨_, same, verdict⟩ | ⟨_, same, verdict⟩ | ⟨_, noticed, verdict⟩
  · rw [verdict, same]
    exact ⟨alone, (joinsIf_self s h.station r).symm, .inl rfl⟩
  · rw [verdict, same]
    exact ⟨alone, (joinsIf_self s h.station r).symm, .inl rfl⟩
  · rw [verdict]
    exact ⟨fun m => s.record_setRecord h.station m _, (joinsIf_of_noticed noticed).symm, .inr noticed⟩

/-- A place once the station's tentative seating in it is gone (R68). -/
def withoutTentative (n : StationNo) (p : Option Place) : Option Place :=
  match p with
  | none => none
  | some p => if p = ⟨n, true⟩ then none else some p

theorem withoutTentative_of_ne {n : StationNo} {p : Option Place} (h : p ≠ some ⟨n, true⟩) : withoutTentative n p = p := by
  cases p with
  | none => rfl
  | some p => exact if_neg fun e => h (congrArg some e)

/-- A station that is not seated in a place leaves it only if its seating there is tentative. -/
theorem vacate_eq_withoutTentative {n : StationNo} {p : Option Place} (h : p ≠ some ⟨n, false⟩) : vacate p n = withoutTentative n p := by
  cases p with
  | none => rfl
  | some p =>
    obtain ⟨m, b⟩ := p
    by_cases own : m = n
    · subst own
      cases b with
      | false => exact absurd rfl h
      | true => simp [vacate, placeHolds, withoutTentative]
    · simp [vacate, placeHolds, withoutTentative, own]

/-- The station of a PORT hold is seated nowhere (R67). -/
theorem not_seated_of_port {s : State} (laws : s.Laws [] []) {h : Hold} (hk : h ∈ s.holds) {u : LinkUnit} {q : LinkPort}
    (port : h.kind = .port u q) (i : Option LaneNo) : s.place i ≠ some ⟨h.station, false⟩ := by
  intro hi
  obtain ⟨j, hj⟩ := (laws.ports h.station).mpr (.inr ⟨h, hk, rfl, u, q, port⟩)
  obtain rfl := laws.onePlace i j _ _ hi hj rfl
  cases hi.symm.trans hj

/-- The station of another hold than a PORT hold has no tentative place (R67, R76). -/
theorem not_tentative_of_other {s : State} (laws : s.Laws [] []) {h : Hold} (hk : h ∈ s.holds) (other : ∀ u q, h.kind ≠ .port u q)
    (i : Option LaneNo) : s.place i ≠ some ⟨h.station, true⟩ := by
  intro hi
  rcases (laws.ports h.station).mp ⟨i, hi⟩ with none | ⟨k, hk', e, u, q, port⟩
  · cases none
  · exact other u q (List.inj_on_of_nodup_map laws.oneHold hk hk' e.symm ▸ port)

/-- A verdict on a RETIRING station's hold frees its tentative place and no other (R69). -/
theorem place_applyVerdict {s : State} (laws : s.Laws [] []) {h : Hold} (hk : h ∈ s.holds) {r : StationRecord}
    (hr : s.record h.station = some r) (offline : s.isOnline h.station = false) (accept : Bool) (i : Option LaneNo) :
    ((s.removeHold h.station).applyVerdict h accept).place i = withoutTentative h.station (s.place i) := by
  rcases applyVerdict_cases (s := s.removeHold h.station) hr offline accept with ⟨⟨u, q, port⟩, _, verdict⟩ | ⟨other, _, verdict⟩ |
    ⟨other, _, verdict⟩
  · rw [verdict, State.place_freePlaces]
    exact vacate_eq_withoutTentative (not_seated_of_port laws hk port i)
  · rw [verdict]
    exact (withoutTentative_of_ne (not_tentative_of_other laws hk other i)).symm
  · rw [verdict]
    exact (withoutTentative_of_ne (not_tentative_of_other laws hk other i)).symm

/-! ### The last obligation -/

/-- Without its tentative place and its hold, a station's obligations are its seat and its share in the stage (R19). -/
theorem hasObligation_eq {s t : State} {n : StationNo} (places : ∀ i, t.place i = withoutTentative n (s.place i)) (free : ¬ Held t n)
    (stage : t.stage = s.stage) : t.hasObligation n = (seatedAt s n || owedAt s n) := by
  have seated : t.hasPlace n = seatedAt s n := by
    have place (i : Option LaneNo) : (∃ p, t.place i = some p ∧ p.station = n) ↔ s.place i = some ⟨n, false⟩ := by
      rw [places]
      rcases s.place i with _ | ⟨m, _ | _⟩ <;> simp [withoutTentative]
    rw [Bool.eq_iff_iff, State.hasPlace_iff, Placed, seatedAt, List.any_eq_true]
    refine exists_congr fun i => ?_
    rw [place, decide_eq_true_eq]
    exact (and_iff_right (mem_placeNames i)).symm
  have owed : t.isOwed n = owedAt s n := by rw [State.isOwed, stage]; rfl
  rw [State.hasObligation, seated, owed, (t.pendingHold_eq_none n).mpr free, Option.isSome_none, Bool.or_false]

/-- A report of R20 on a RETIRING station (R21, R23). -/
theorem reportRelease_eq {s : State} {n : StationNo} {r : StationRecord} (hr : s.record n = some r) (retiring : r.life = .retiring) :
    State.reportRelease n s =
      if s.hasObligation n then s else { s.setRecord n (some (retired r)) with noticeList := joins s n r } := by
  have life : s.hasLife n .retiring = true := (s.hasLife_iff n .retiring).mpr ⟨r, hr, retiring⟩
  rw [State.reportRelease, life, Bool.true_and, becomeRetired_eq hr]
  cases s.hasObligation n <;> rfl

/-- The notices of a verdict and of a retirement make one entry in the notice list (R155). -/
theorem joins_joinsIf {s t : State} {n : StationNo} {r q : StationRecord} (list : t.noticeList = joinsIf s n r q)
    (cases : q.notices = r.notices ∨ q.notices ≠ NoticeSet.none) : joins t n q = joins s n r := by
  rcases cases with same | noticed
  · rw [joinsIf, if_pos same] at list
    rw [joins, same, list, joins]
  · rw [joins, if_neg noticed, list, joinsIf_of_noticed noticed]

/-! ### The command -/

theorem discardPrivateCopy_eq (t : State) : t.discardPrivateCopy = { t with privateCopy := copyKept t t.holds } := by
  unfold State.discardPrivateCopy copyKept
  split <;> rfl

/-- The private frame copy is kept while the holds left hold one of its kind (R81). -/
theorem copyKept_of_iff {s : State} {hs : List Hold} (h : s.privateCopy ≠ none ↔ ∃ k ∈ hs, k.kind = .privateFrame) :
    copyKept s hs = s.privateCopy := by
  unfold copyKept
  split
  · rfl
  · next gone =>
    refine Eq.symm (Classical.not_not.mp fun kept => gone ?_)
    simpa using h.mp kept

/-- The holds without those of a station. -/
def holdsWithout (s : State) (n : StationNo) : List Hold := s.holds.filter fun h => decide (h.station ≠ n)

/-- A verdict of the host: the hold's leaving, its effect, the end of the private frame copy, and the report of R20 (R82, R88). -/
theorem answerWith_eq {s : State} (laws : s.Laws [] []) {h : Hold} (hk : h ∈ s.holds) (accept : Bool) :
    s.answerWith h accept = State.reportRelease h.station
      { (s.removeHold h.station).applyVerdict h accept with privateCopy := copyKept s (holdsWithout s h.station) } := by
  have frame := (s.removeHold h.station).applyVerdict_frame h accept
  have copied : ((s.removeHold h.station).applyVerdict h accept).privateCopy = s.privateCopy := by rw [frame]; rfl
  unfold State.answerWith State.holdLeft
  refine congrArg _ ?_
  split
  · have kept : copyKept ((s.removeHold h.station).applyVerdict h accept) ((s.removeHold h.station).applyVerdict h accept).holds =
        copyKept s (holdsWithout s h.station) := by rw [frame]; rfl
    rw [discardPrivateCopy_eq, kept]
  · next other =>
    have kept : copyKept s (holdsWithout s h.station) = s.privateCopy := copyKept_of_iff (laws.copy_without hk other)
    rw [kept, ← copied]

/-- A verdict touches the records, the notice list, the route, the hold list and the private frame copy alone (R82, R88). -/
theorem answerWith_frame {s : State} (laws : s.Laws [] []) {h : Hold} (hk : h ∈ s.holds) (accept : Bool) :
    s.answerWith h accept = { s with
      stations := (s.answerWith h accept).stations
      noticeList := (s.answerWith h accept).noticeList
      talkSeat := (s.answerWith h accept).talkSeat
      lanes := (s.answerWith h accept).lanes
      holds := holdsWithout s h.station
      privateCopy := copyKept s (holdsWithout s h.station) } := by
  rw [answerWith_eq laws hk, State.reportRelease_frame, State.applyVerdict_frame]
  rfl

/-- A verdict on a RETIRING station's hold: its effect, and the retirement if the station has no seat and no share in the stage (R21, R69). -/
theorem answerWith_retiring {s : State} (laws : s.Laws [] []) {h : Hold} (hk : h ∈ s.holds) {r : StationRecord}
    (hr : s.record h.station = some r) (retiring : r.life = .retiring) (accept : Bool) :
    (∀ m, (s.answerWith h accept).record m = if m = h.station then
        some (if seatedAt s h.station || owedAt s h.station then ruled h.kind accept r else retired (ruled h.kind accept r))
      else s.record m) ∧
    (∀ i, (s.answerWith h accept).place i = withoutTentative h.station (s.place i)) ∧
    (s.answerWith h accept).noticeList =
      if seatedAt s h.station || owedAt s h.station then joinsIf s h.station r (ruled h.kind accept r) else joins s h.station r := by
  have offline : s.isOnline h.station = false := by rw [State.isOnline, State.hasLife, hr]; simp [retiring]
  have frame := (s.removeHold h.station).applyVerdict_frame h accept
  have places := place_applyVerdict laws hk hr offline accept
  obtain ⟨records, list, cases⟩ := applyVerdict_records (s := s.removeHold h.station) hr offline accept
  rw [answerWith_eq laws hk]
  have held : ¬ Held ((s.removeHold h.station).applyVerdict h accept) h.station := by
    rw [frame]; exact s.not_held_removeHold h.station
  have stage : ((s.removeHold h.station).applyVerdict h accept).stage = s.stage := by rw [frame]; rfl
  generalize (s.removeHold h.station).applyVerdict h accept = v at records list places held stage
  have own : v.record h.station = some (ruled h.kind accept r) := (records h.station).trans (if_pos rfl)
  have obliged := hasObligation_eq (t := { v with privateCopy := copyKept s (holdsWithout s h.station) }) places held stage
  rw [reportRelease_eq (s := { v with privateCopy := copyKept s (holdsWithout s h.station) }) own ((life_ruled ..).trans retiring), obliged]
  split
  · exact ⟨records, places, list⟩
  · refine ⟨fun m => ?_, places, joins_joinsIf list cases⟩
    refine (State.record_setRecord _ h.station m _).trans ?_
    split
    · rfl
    · next other => exact (records m).trans (if_neg other)

theorem finish_plain_ok {s t : State} (kept : t.params = s.params) : (CommandOutcome.plain t .ok).finish = okay s t := by
  rw [okay, ← kept]
  rfl

/-- ANSWER HOLD with the tag of a station's pending hold completes with the verdict's effect. -/
theorem answerHold_accepted {s : State} {n : StationNo} {r : StationRecord} {h : Hold} (laws : (s.accept 0x49).Laws [] []) (ready : Ready s)
    (names : Names s n) (hr : s.record n = some r) (live : r.life ≠ .retired) (hk : h ∈ s.holds) (own : h.station = n)
    (tag : h.tag = s.params[1]) (verdict : s.params[2].toNat ≤ 1) :
    exec .answerHold s = .next (okay s ((s.accept 0x49).answerWith h (decide (s.params[2].toNat = 0)))) := by
  have row : exec .answerHold s = .next (answerHoldCommand s.params (s.accept 0x49)).finish :=
    congrArg Host.Outcome.next (Ready.issue ready 0x49 answerHoldCommand)
  have known : ¬ (s.params[2] ≠ 0 ∧ s.params[2] ≠ 1) := by bv_omega
  have accepts : decide (s.params[2] = 0) = decide (s.params[2].toNat = 0) := decide_eq_decide.mpr BitVec.toNat_eq
  have kept : ((s.accept 0x49).answerWith h (decide (s.params[2].toNat = 0))).params = s.params := by rw [answerWith_frame laws hk]; rfl
  rw [row, answerHoldCommand, stationField_val _ n names]
  dsimp only
  rw [if_neg known, withStation_accepts (s.accept 0x49) n _ _ r hr (decide_eq_true live), pendingHold_of_mem laws hk own]
  dsimp only
  rw [if_pos tag, accepts, finish_plain_ok kept]

/-- Settles O58: a PORT hold's place goes with either verdict, a seat or a share in the stage keeps the station RETIRING, and without them the
report of R20 retires it, with one entry in the notice list for both notices. -/
theorem answerRetires : Obligations.AnswerRetires := by
  intro s n r h inv ready names hr retiring hk own tag verdict
  have laws : (s.accept 0x49).Laws [] [] := inv.laws.retouch (.of_frame ⟨rfl, rfl, rfl, rfl, rfl⟩ rfl rfl rfl rfl)
  have accepted := answerHold_accepted laws ready names hr (by simp [retiring]) hk own tag verdict
  subst own
  obtain ⟨records, places, list⟩ := answerWith_retiring laws hk hr retiring (decide (s.params[2].toNat = 0))
  refine ⟨_, accepted, records, places, list.trans (joinsIf_ite s h.station r _ _), ?_⟩
  exact (congrArg (okay s) (answerWith_frame laws hk _)).trans rfl

end Sys2Proof.Proofs

/-! ## The millisecond step, the hold limit and the forced triggers as their rules state them -/

namespace Sys2Proof.Proofs

-- One theorem after the other: each thread of its own would take a stack.
set_option Elab.async false

open Sys2Proof Sys2Proof.Machine Sys2Proof.Claims

/-- A step lowers every timer (R80, R104). -/
theorem tick_eq (s : State) : s.tick = { s with
    holds := s.holds.map fun h => { h with remaining := h.remaining.map fun t => t - 1 }
    stage := s.stage.map fun g => { g with remaining := g.remaining.map fun t => t - 1 } } := by
  have timer (t : Option Nat) : tickTimer t = t.map fun t => t - 1 := by cases t <;> rfl
  unfold State.tick
  simp only [timer]
  cases s.stage <;> rfl

/-- Settles O41: the row takes the two expiries in turn, and then every timer falls. -/
theorem millisecondStep : Obligations.MillisecondStep := fun s =>
  ⟨s.expireHolds, s.expireHolds.expireStage, rfl, rfl, congrArg Host.Outcome.next (tick_eq s.expireHolds.expireStage)⟩

/-- A field of two values passes with 0 and 1 (R10). -/
theorem switchField_iff (b : Byte) : (b ≠ 0 ∧ b ≠ 1) ↔ 1 < b.toNat := by bv_omega

/-- Settles O60: every byte is a limit; FORCE TRIGGER tests the line and then the state. -/
theorem limitAndForce : Obligations.LimitAndForce := by
  have force {s : State} (h : Ready s) : exec .forceTrigger s = .next (forceTriggerCommand s.params (s.accept 0x60)).finish :=
    congrArg Host.Outcome.next (Ready.issue h 0x60 forceTriggerCommand)
  refine ⟨fun s ready => ?limit, fun s l ready line switch => ?switched, fun s l ready line other => ?badState, fun s ready big => ?badLine⟩
  case limit => exact congrArg Host.Outcome.next (Ready.issue ready 0x58 setHoldLimitCommand)
  case switched =>
    have on : decide (s.params[1] = 1) = decide (s.params[1].toNat = 1) := decide_eq_decide.mpr BitVec.toNat_eq
    rw [force ready, forceTriggerCommand, dif_pos (line ▸ l.isLt), if_neg (mt (switchField_iff _).mp (Nat.not_lt_of_le switch)), on]
    simp only [line]
    rfl
  case badState =>
    rw [force ready, forceTriggerCommand, dif_pos (line ▸ l.isLt), if_pos ((switchField_iff _).mpr other)]
    rfl
  case badLine =>
    rw [force ready, forceTriggerCommand, dif_neg (Nat.not_lt_of_le big)]
    rfl

end Sys2Proof.Proofs

/-! ## PRIVATE frames as their rules state them -/

namespace Sys2Proof.Proofs

-- One theorem after the other: each thread of its own would take a stack.
set_option Elab.async false

open Sys2Proof Sys2Proof.Machine Sys2Proof.Claims

/-- Holds of one kind go to the tail of the list in the order of their stations, with consecutive tags (R77, R78). -/
theorem raiseAll_eq (k : HoldKind) (ns : List StationNo) (s : State) : ns.foldl (fun t n => t.raiseHold n k) s =
    { s with
      holds := s.holds ++ raised s (ns.map fun n => (n, k))
      holdTag := s.holdTag + BitVec.ofNat 8 ns.length } := by
  induction ns using List.reverseRecOn with
  | nil => simp [raised]
  | append_singleton ns n ih =>
    have next : s.holdTag + BitVec.ofNat 8 (ns ++ [n]).length = s.holdTag + BitVec.ofNat 8 ns.length + 1 := by
      rw [List.length_append, List.length_singleton, BitVec.ofNat_add, ← BitVec.add_assoc]
      rfl
    rw [List.foldl_append, ih, List.foldl_cons, List.foldl_nil, List.map_append, List.map_singleton, raised_concat, List.length_map,
      next, ← List.append_assoc, ← startTimer_eq]
    rfl

/-- Among the ONLINE listeners the option alone decides. -/
theorem onlineListeners_filter (s : State) (p : StationRecord → Bool) :
    s.onlineListeners.filter (fun n => s.onlineWith n p) = s.onlineListeners.filter (having s p) := by
  refine List.filter_congr fun n hn => ?_
  obtain ⟨r, online⟩ := (s.isOnline_iff n).mp (List.mem_filter.mp hn).2
  exact (having_of_online online p).symm

/-- What a PRIVATE frame leaves (R81). -/
theorem takePrivate_eq (s : State) (code : BitVec 6) (body : List Byte) : s.takePrivate code body =
    let reached := s.onlineListeners.filter (having s fun r => r.options.passPrivate)
    if reached = [] then s
    else { s with
      privateCopy := some ⟨code, body⟩
      holds := s.holds ++ raised s (reached.map fun n => (n, .privateFrame))
      holdTag := s.holdTag + BitVec.ofNat 8 reached.length } := by
  unfold State.takePrivate
  rw [onlineListeners_filter]
  dsimp only
  split
  · next nobody => rw [nobody, if_pos rfl]
  · next n ns reached =>
    rw [reached, if_neg (List.cons_ne_nil n ns), raiseAll_eq]
    rfl

/-- Settles O31: the frame is taken at its end, and the holds of the listeners it reaches are raised one by one. -/
theorem privateTaken : Obligations.PrivateTaken := by
  intro s code body ⟨on, receiving⟩ short
  have frame : rowFrame (.privateFrame code body) = some (.privateFrame code body) := if_pos short
  rw [exec_of_rowFrame frame, s.frameEnds_taken _ on receiving]
  exact congrArg Host.Outcome.next (takePrivate_eq s.frameOver code body)

end Sys2Proof.Proofs

/-! ## ANSWER HOLD on an ONLINE station as its rules state it -/

namespace Sys2Proof.Proofs

-- One theorem after the other: each thread of its own would take a stack.
set_option Elab.async false

open Sys2Proof Sys2Proof.Machine Sys2Proof.Claims

/-! ### One record replaced -/

/-- A station joins the notice list when its set is no longer empty (R155). -/
theorem joinsIf_eq (s : State) (n : StationNo) (r q : StationRecord) : joinsIf s n r q =
    if r.notices = NoticeSet.none ∧ q.notices ≠ NoticeSet.none then s.noticeList ++ [n] else s.noticeList := by
  unfold joinsIf joins
  by_cases empty : r.notices = NoticeSet.none
  · by_cases still : q.notices = NoticeSet.none <;> simp [empty, still]
  · simp [empty]

/-- From `s` to `t` the record of one station has become another, and the notice list has followed it (R155). -/
structure Replaced (s t : State) (n : StationNo) (r q : StationRecord) : Prop where
  records : ∀ m, t.record m = if m = n then some q else s.record m
  list : t.noticeList = joinsIf s n r q

theorem Replaced.same {s t : State} {n : StationNo} {r : StationRecord} (hr : s.record n = some r) (stations : t.stations = s.stations)
    (list : t.noticeList = s.noticeList) : Replaced s t n r r where
  records m := by
    rw [State.record_congr stations]
    split
    · next e => exact e ▸ hr
    · rfl
  list := list.trans (joinsIf_self s n r).symm

/-- A change that reaches its station replaces its record. -/
theorem Reaches.replaced {P : State → Prop} {f : StationNo → State → State} {g : StationNo → StationRecord → StationRecord}
    (h : Reaches P f g) {s : State} (hs : P s) {n : StationNo} {r : StationRecord} (hr : s.record n = some r) :
    Replaced s (f n s) n r (g n r) where
  records m := by rw [h.record n m s hs, hr]; rfl
  list := by
    rw [h.noticeList n s hs, having_of_record hr, joinsIf_eq]
    simp only [wakes, decide_eq_true_eq]

theorem Reaches.place {P : State → Prop} {f : StationNo → State → State} {g : StationNo → StationRecord → StationRecord}
    (h : Reaches P f g) (s : State) (n : StationNo) (i : Option LaneNo) : (f n s).place i = s.place i := by
  rw [h.frame n s]
  rfl

/-! ### The verdict -/

/-- The clear effects with CLEARED (R146). -/
theorem reaches_clearStation : Reaches (fun _ => True) (fun n s => s.clearStation n) (fun _ => cleared) :=
  (reaches_updateRecord (g := fun r => { r with inbound := r.inbound.dropFilling, outbound := .empty }) fun _ => rfl).comp
    (reaches_addNotice .cleared)

/-- A verdict on another hold than a PORT hold touches its station's record alone (R84 to R86). -/
theorem applyVerdict_other {s : State} {h : Hold} {r : StationRecord} (hr : s.record h.station = some r)
    (other : ∀ u q, h.kind ≠ .port u q) (accept : Bool) :
    Replaced s (s.applyVerdict h accept) h.station r (ruled h.kind accept r) ∧ ∀ i, (s.applyVerdict h accept).place i = s.place i := by
  have untouched : Replaced s s h.station r r ∧ ∀ i, s.place i = s.place i := ⟨.same hr rfl rfl, fun _ => rfl⟩
  unfold State.applyVerdict
  cases kind : h.kind with
  | port u q => exact absurd kind (other u q)
  | clear scope =>
    cases accept with
    | false => exact untouched
    | true => exact ⟨reaches_clearStation.replaced trivial hr, reaches_clearStation.place s h.station⟩
  | trigger =>
    cases accept with
    | false => exact untouched
    | true => exact ⟨(reaches_addNotice .triggered).replaced trivial hr, (reaches_addNotice .triggered).place s h.station⟩
  | endOfMessage | privateFrame => exact untouched

/-- A refused PORT hold frees its station's place (R68). -/
theorem applyVerdict_refused (s : State) {h : Hold} {u : LinkUnit} {q : LinkPort} (port : h.kind = .port u q) :
    s.applyVerdict h false = s.freePlaces h.station := by
  unfold State.applyVerdict
  rw [port]
  rfl

/-- An accepted PORT hold of an ONLINE station seats it (R67). -/
theorem applyVerdict_accepted {s : State} {h : Hold} {u : LinkUnit} {q : LinkPort} (port : h.kind = .port u q)
    (online : s.isOnline h.station = true) : s.applyVerdict h true = s.acceptPort h.station q := by
  unfold State.applyVerdict
  rw [port]
  simp only [online]
  rfl

/-! ### The seating (R67) -/

theorem isSome_laneOf (s : State) (n : StationNo) : (s.laneOf n).isSome = true ↔ ∃ l p, s.place (some l) = some p ∧ p.station = n := by
  rw [State.laneOf, List.find?_isSome]
  simp only [placeHolds_iff, mem_laneNumbers, true_and]
  rfl

/-- The one place of a tentative station is a lane or the talk seat. -/
theorem isSome_laneOf_of_tentative {s : State} (onePlace : ∀ i j p q, s.place i = some p → s.place j = some q → p.station = q.station → i = j)
    {n : StationNo} {i : Option LaneNo} (hi : s.place i = some ⟨n, true⟩) :
    (s.laneOf n).isSome = true ↔ s.place none ≠ some ⟨n, true⟩ := by
  rw [isSome_laneOf]
  constructor
  · rintro ⟨l, p, hl, own⟩ talks
    cases onePlace _ _ _ _ hl talks own
  · intro silent
    cases i with
    | none => exact absurd hi silent
    | some l => exact ⟨l, _, hi, rfl⟩

/-- ACCEPT of a PORT hold takes the place, writes the port and, in a lane, makes the remote transition (R67). -/
theorem acceptPort_eq (s : State) (n : StationNo) (q : LinkPort) : s.acceptPort n q =
    if (s.laneOf n).isSome then ((s.settle n).updateRecord n fun r => { r with acceptedPort := some q }).remoteTransition n
    else (s.settle n).updateRecord n fun r => { r with acceptedPort := some q } := rfl

/-- The accepted port is written, and in a lane the remote transition follows (R66, R67). -/
theorem acceptPort_replaced {s : State} {n : StationNo} {r : StationRecord} (hr : s.record n = some r) (q : LinkPort) :
    Replaced s (s.acceptPort n q) n r
      (if (s.laneOf n).isSome then transition s { r with acceptedPort := some q } else { r with acceptedPort := some q }) := by
  have port := reaches_updateRecord (g := fun r => { r with acceptedPort := some q }) fun _ => rfl
  have remote (m : StationNo) (t : State) (h : t.remoteEnable = s.remoteEnable) :
      (t.updateRecord m fun r => { r with acceptedPort := some q }).remoteEnable = s.remoteEnable := h
  -- The settled places change no record, so the passes can start from them.
  have settled : (s.settle n).record n = some r := hr
  rw [acceptPort_eq]
  split
  · have both := ((port.mono remote).comp (reaches_remoteTransition s)).replaced (s := s.settle n) rfl settled
    exact ⟨both.records, both.list⟩
  · have alone := port.replaced (s := s.settle n) trivial settled
    exact ⟨alone.records, alone.list⟩

/-- A place once its station's PORT hold has its verdict: a tentative place is taken or freed (R67, R68). -/
def placeDecided (accept : Bool) (n : StationNo) (p : Option Place) : Option Place :=
  match p with
  | none => none
  | some p => if p = ⟨n, true⟩ then (if accept then some ⟨n, false⟩ else none) else some p

theorem placeDecided_of_ne (accept : Bool) {n : StationNo} {p : Option Place} (h : p ≠ some ⟨n, true⟩) : placeDecided accept n p = p := by
  cases p with
  | none => rfl
  | some p => exact if_neg fun e => h (congrArg some e)

theorem settlePlace_eq (p : Option Place) (n : StationNo) : settlePlace p n = placeDecided true n p := by
  cases p with
  | none => rfl
  | some p =>
    obtain ⟨m, b⟩ := p
    by_cases own : m = n
    · subst own
      cases b <;> simp [settlePlace, placeHolds, placeDecided]
    · simp [settlePlace, placeHolds, placeDecided, own]

/-- The remote transition touches no place. -/
theorem place_acceptPort (s : State) (n : StationNo) (q : LinkPort) (i : Option LaneNo) :
    (s.acceptPort n q).place i = placeDecided true n (s.place i) := by
  have ported : ((s.settle n).updateRecord n fun r => { r with acceptedPort := some q }).place i = placeDecided true n (s.place i) :=
    (s.place_settle n i).trans (settlePlace_eq ..)
  rw [acceptPort_eq]
  split
  · rw [State.remoteTransition_frame]
    exact ported
  · exact ported

/-! ### The verdict on an ONLINE station's hold -/

/-- A verdict on another hold than an accepted PORT hold leaves the record of an ONLINE station as it leaves a RETIRING one's. -/
theorem answered_eq_ruled (s : State) (n : StationNo) {k : HoldKind} {accept : Bool} (r : StationRecord)
    (unseated : accept = true → ∀ u q, k ≠ .port u q) : answered s n k accept r = ruled k accept r := by
  cases k with
  | port u q =>
    cases accept with
    | false => rfl
    | true => exact absurd rfl (unseated rfl u q)
  | clear | trigger | endOfMessage | privateFrame => cases accept <;> rfl

/-- The record of a station that an accepted PORT hold seats. -/
theorem answered_port {s : State} (laws : s.Laws [] []) {h : Hold} (hk : h ∈ s.holds) {u : LinkUnit} {q : LinkPort}
    (port : h.kind = .port u q) (r : StationRecord) : answered s h.station h.kind true r =
      if (s.laneOf h.station).isSome then transition s { r with acceptedPort := some q } else { r with acceptedPort := some q } := by
  obtain ⟨i, hi⟩ := (laws.ports h.station).mpr (.inr ⟨h, hk, rfl, u, q, port⟩)
  rw [port]
  simp only [isSome_laneOf_of_tentative laws.onePlace hi, ne_eq, ite_not]
  rfl

/-- A verdict on an ONLINE station's hold, once the hold has left the list (R67, R68, R83 to R86). -/
theorem applyVerdict_online {s : State} (laws : s.Laws [] []) {h : Hold} (hk : h ∈ s.holds) {r : StationRecord}
    (online : Online s h.station r) (accept : Bool) :
    Replaced s ((s.removeHold h.station).applyVerdict h accept) h.station r (answered s h.station h.kind accept r) ∧
      ∀ i, ((s.removeHold h.station).applyVerdict h accept).place i = placeDecided accept h.station (s.place i) := by
  have hr : (s.removeHold h.station).record h.station = some r := online.1
  by_cases port : ∃ u q, h.kind = .port u q
  · obtain ⟨u, q, port⟩ := port
    cases accept with
    | false =>
      rw [applyVerdict_refused _ port]
      refine ⟨.same hr rfl rfl, fun i => ?_⟩
      rw [State.place_freePlaces]
      exact vacate_eq_withoutTentative (not_seated_of_port laws hk port i)
    | true =>
      have alive : (s.removeHold h.station).isOnline h.station = true := (s.isOnline_iff h.station).mpr ⟨r, online⟩
      have seated := acceptPort_replaced hr q
      rw [applyVerdict_accepted port alive, answered_port laws hk port]
      exact ⟨⟨seated.records, seated.list⟩, place_acceptPort _ _ q⟩
  · have other (u : LinkUnit) (q : LinkPort) (e : h.kind = .port u q) : False := port ⟨u, q, e⟩
    obtain ⟨verdict, places⟩ := applyVerdict_other hr other accept
    rw [answered_eq_ruled s h.station r fun _ => other]
    refine ⟨⟨verdict.records, verdict.list⟩, fun i => ?_⟩
    rw [placeDecided_of_ne accept (not_tentative_of_other laws hk other i)]
    exact places i

/-- No verdict changes the life state. -/
theorem life_answered (s : State) (n : StationNo) (k : HoldKind) (accept : Bool) (r : StationRecord) :
    (answered s n k accept r).life = r.life := by
  have moves (q : StationRecord) : (transition s q).life = q.life := by unfold transition; split <;> rfl
  cases accept with
  | false => rfl
  | true =>
    cases k with
    | port u q =>
      show (if s.place none = some ⟨n, true⟩ then _ else transition s _ : StationRecord).life = r.life
      split
      · rfl
      · exact moves _
    | clear | trigger | endOfMessage | privateFrame => rfl

/-- A report of R20 on a station that is not RETIRING has no effect (R21). -/
theorem reportRelease_of_life {s : State} {n : StationNo} {r : StationRecord} (hr : s.record n = some r) (life : r.life ≠ .retiring) :
    State.reportRelease n s = s := by
  have other : s.hasLife n .retiring = false := by rw [State.hasLife, hr]; exact decide_eq_false life
  rw [State.reportRelease, other]
  rfl

/-- A verdict on an ONLINE station's hold, with the hold's leaving; there is no retirement to report (R82, R88). -/
theorem answerWith_online {s : State} (laws : s.Laws [] []) {h : Hold} (hk : h ∈ s.holds) {r : StationRecord}
    (online : Online s h.station r) (accept : Bool) :
    Replaced s (s.answerWith h accept) h.station r (answered s h.station h.kind accept r) ∧
      ∀ i, (s.answerWith h accept).place i = placeDecided accept h.station (s.place i) := by
  obtain ⟨verdict, places⟩ := applyVerdict_online laws hk online accept
  rw [answerWith_eq laws hk]
  generalize (s.removeHold h.station).applyVerdict h accept = v at verdict places
  have own : v.record h.station = some (answered s h.station h.kind accept r) := (verdict.records h.station).trans (if_pos rfl)
  rw [reportRelease_of_life (s := { v with privateCopy := copyKept s (holdsWithout s h.station) }) own
    (by simp [life_answered, online.2])]
  exact ⟨⟨verdict.records, verdict.list⟩, places⟩

/-! ### The command -/

/-- A command for an ONLINE or RETIRING station whose one field before the station's checks is field 1 (R8). -/
theorem refuses_live {s : State} {c : Instr} {code : Byte} {act : ParamBlock → State → CommandOutcome} {fieldsPass : Prop}
    (row : exec c s = .next (act s.params (s.accept code)).finish)
    (badStation : 32 ≤ s.params[0].toNat → act s.params (s.accept code) = .badField (s.accept code) 1)
    (named : fieldsPass → ∀ n, Names s n → ∃ f, act s.params (s.accept code) = withStation (s.accept code) n acceptsLive f) :
    Refuses c live fieldsPass s := by
  refine ⟨fun big => ?_, fun pass n names free => ?_, fun pass n r names hr off => ?_⟩
  · rw [row, badStation big]
    rfl
  · obtain ⟨f, e⟩ := named pass n names
    rw [row, e, withStation_free (s.accept code) n _ _ free]
    rfl
  · obtain ⟨f, e⟩ := named pass n names
    rw [row, e, withStation_refuses (s.accept code) n _ _ r hr (decide_eq_false (show ¬ r.life ≠ .retired from off))]
    rfl

/-- The command's own checks: the station, then the verdict (R82). -/
theorem answerHoldCommand_named {p : ParamBlock} {n : StationNo} (names : p[0].toNat = n.val) (verdict : p[2].toNat ≤ 1) (s : State) :
    answerHoldCommand p s = withStation s n acceptsLive fun _ =>
      match s.pendingHold n with
      | none => .plain s .noHold
      | some h => if h.tag = p[1] then .plain (s.answerWith h (decide (p[2] = 0))) .ok else .plain s .noHold := by
  rw [answerHoldCommand, stationField_val _ n names]
  exact if_neg (mt (switchField_iff _).mp (Nat.not_lt_of_le verdict))

/-- Settles O57: the verdict replaces the record of the station and decides its tentative place; without the hold the command finds none. -/
theorem answerHold : Obligations.AnswerHold := by
  have row {s : State} (h : Ready s) : exec .answerHold s = .next (answerHoldCommand s.params (s.accept 0x49)).finish :=
    congrArg Host.Outcome.next (Ready.issue h 0x49 answerHoldCommand)
  refine ⟨fun s n r h inv ready names online hk own tag verdict => ?answered, fun s n r ready names hr live verdict old => ?noHold,
    fun s n ready names other => ?badVerdict, fun s ready => ?refused⟩
  case answered =>
    have laws : (s.accept 0x49).Laws [] [] := inv.laws.retouch (.of_frame ⟨rfl, rfl, rfl, rfl, rfl⟩ rfl rfl rfl rfl)
    have accepted := answerHold_accepted laws ready names online.1 (by simp [online.2]) hk own tag verdict
    subst own
    obtain ⟨replaced, places⟩ := answerWith_online laws hk online (decide (s.params[2].toNat = 0))
    refine ⟨_, accepted, replaced.records, places, replaced.list, ?_⟩
    exact (congrArg (okay s) (answerWith_frame laws hk _)).trans rfl
  case noHold =>
    rw [row ready, answerHoldCommand_named names verdict, withStation_accepts (s.accept 0x49) n _ _ r hr (decide_eq_true live)]
    split
    · rfl
    · next h hp =>
      obtain ⟨hk, own⟩ := (s.accept 0x49).pendingHold_some n h hp
      rw [if_neg (old h hk own)]
      rfl
  case badVerdict =>
    rw [row ready, answerHoldCommand, stationField_val _ n names]
    dsimp only
    rw [if_pos ((switchField_iff _).mpr other)]
    rfl
  case refused =>
    refine refuses_live (row ready) (fun big => ?_) fun verdict n names => ⟨_, answerHoldCommand_named names verdict _⟩
    rw [answerHoldCommand, stationField_none _ big]

end Sys2Proof.Proofs

/-! ## HOLD_EXPIRY as its rules state it -/

namespace Sys2Proof.Proofs

-- One theorem after the other: each thread of its own would take a stack.
set_option Elab.async false

open Sys2Proof Sys2Proof.Machine Sys2Proof.Claims

/-! ### One hold that runs out -/

/-- The record of a station whose hold of a kind runs out: HOLD_EXPIRED, the default verdict, and RETIRED if it was RETIRING and neither a seat
nor a share in the stage is left to it (R21, R88, R89). -/
def ranOut (s : State) (n : StationNo) (k : HoldKind) (r : StationRecord) : StationRecord :=
  if r.life = .retiring ∧ seatedAt s n = false ∧ owedAt s n = false then retired (expired k r) else expired k r

theorem ranOut_online {r : StationRecord} (online : r.life = .online) (s : State) (n : StationNo) (k : HoldKind) :
    ranOut s n k r = expired k r := if_neg fun e => by rw [online] at e; cases e.1

theorem ranOut_retiring {r : StationRecord} (retiring : r.life = .retiring) (s : State) (n : StationNo) (k : HoldKind) :
    ranOut s n k r = if seatedAt s n || owedAt s n then expired k r else retired (expired k r) := by
  cases seated : seatedAt s n <;> cases owed : owedAt s n <;> simp [ranOut, retiring, seated, owed]

/-- The default verdict on a record that has HOLD_EXPIRED, for a RETIRING and for an ONLINE station (R89). -/
theorem default_verdict (s : State) (n : StationNo) (k : HoldKind) (r : StationRecord) :
    ruled k k.defaultAccept { r with notices := r.notices.add .holdExpired } = expired k r ∧
      answered s n k k.defaultAccept { r with notices := r.notices.add .holdExpired } = expired k r := by
  cases k <;> exact ⟨rfl, rfl⟩

/-- The default verdict of a PORT hold is REFUSE, and no other hold has a tentative place (R89). -/
theorem placeDecided_default {s : State} (laws : s.Laws [] []) {h : Hold} (hk : h ∈ s.holds) (i : Option LaneNo) :
    placeDecided h.kind.defaultAccept h.station (s.place i) = withoutTentative h.station (s.place i) := by
  by_cases port : ∃ u q, h.kind = .port u q
  · obtain ⟨u, q, port⟩ := port
    rw [port]
    rfl
  · have tentative := not_tentative_of_other laws hk (fun u q e => port ⟨u, q, e⟩) i
    rw [placeDecided_of_ne _ tentative, withoutTentative_of_ne tentative]

/-- A station that has a notice stands in the list already (R155). -/
theorem joins_of_noticed {s : State} {n : StationNo} {r : StationRecord} (h : r.notices ≠ NoticeSet.none) :
    joins s n r = s.noticeList ∧ ∀ q, joinsIf s n r q = s.noticeList :=
  ⟨if_neg h, fun q => (joinsIf_eq s n r q).trans (if_neg fun e => h e.1)⟩

/-- What one expiry does to its station's record and place and to the notice list (R88, R89). -/
theorem expireHold_ranOut {s : State} (laws : s.Laws [] []) {h : Hold} (hk : h ∈ s.holds) {r : StationRecord}
    (hr : s.record h.station = some r) :
    (∀ m, (s.expireHold h).record m = if m = h.station then some (ranOut s h.station h.kind r) else s.record m) ∧
    (∀ i, (s.expireHold h).place i = withoutTentative h.station (s.place i)) ∧
    (s.expireHold h).noticeList = joins s h.station r := by
  rw [State.expireHold_eq]
  have touched := s.addNotice_retouches h.station .holdExpired
  have frame := addNotice_eq hr .holdExpired
  have place : (s.addNotice h.station .holdExpired).place = s.place := funext touched.place
  have others (m : StationNo) : (s.addNotice h.station .holdExpired).record m =
      if m = h.station then some { r with notices := r.notices.add .holdExpired } else s.record m := by
    rw [frame]; exact s.record_setRecord h.station m _
  have seated : seatedAt (s.addNotice h.station .holdExpired) h.station = seatedAt s h.station := by rw [frame]; rfl
  have owed : owedAt (s.addNotice h.station .holdExpired) h.station = owedAt s h.station := by rw [frame]; rfl
  have list : (s.addNotice h.station .holdExpired).noticeList = joins s h.station r := by rw [frame]
  have laws' := laws.retouch touched
  have hk' : h ∈ (s.addNotice h.station .holdExpired).holds := touched.holds ▸ hk
  generalize s.addNotice h.station .holdExpired = t at *
  have hr' := (others h.station).trans (if_pos rfl)
  obtain ⟨joined, joinedIf⟩ := joins_of_noticed (s := t) (n := h.station) (r := { r with notices := r.notices.add .holdExpired })
    (r.notices.add_ne_none .holdExpired)
  obtain ⟨verdict, verdict'⟩ := default_verdict t h.station h.kind r
  obtain ⟨_, hq, live⟩ := laws.holders h hk
  obtain rfl := Option.some.inj (hq.symm.trans hr)
  rw [← place, ← list]
  rcases (LifeState.ne_retired_iff _).mp live with online | retiring
  · obtain ⟨⟨records, ended⟩, places⟩ := answerWith_online laws' hk' ⟨hr', online⟩ h.kind.defaultAccept
    refine ⟨fun m => ?_, fun i => (places i).trans (placeDecided_default laws' hk' i), ended.trans (joinedIf _)⟩
    rw [records, verdict', ranOut_online online]
    split
    · rfl
    · next other => exact (others m).trans (if_neg other)
  · obtain ⟨records, places, ended⟩ := answerWith_retiring laws' hk' hr' retiring h.kind.defaultAccept
    refine ⟨fun m => ?_, places, ended.trans ?_⟩
    · rw [records, verdict, seated, owed, ranOut_retiring retiring]
      split
      · rfl
      · next other => exact (others m).trans (if_neg other)
    · rw [joined, joinedIf, ite_self]

/-- An expiry touches the records, the notice list, the route, the hold list and the private frame copy alone (R88, R89). -/
theorem expireHold_frame {s : State} (laws : s.Laws [] []) {h : Hold} (hk : h ∈ s.holds) : s.expireHold h = { s with
    stations := (s.expireHold h).stations
    noticeList := (s.expireHold h).noticeList
    talkSeat := (s.expireHold h).talkSeat
    lanes := (s.expireHold h).lanes
    holds := holdsWithout s h.station
    privateCopy := copyKept s (holdsWithout s h.station) } := by
  have touched := s.addNotice_retouches h.station .holdExpired
  rw [State.expireHold_eq, answerWith_frame (laws.retouch touched) (touched.holds ▸ hk), State.addNotice_frame]
  rfl

/-! ### The holds that run out, one after the other -/

/-- The hold list without the stations of these holds. -/
def holdsLeft (s : State) (ks : List Hold) : List Hold := s.holds.filter fun h => !ks.any fun k => decide (k.station = h.station)

/-- From `s` to `t` the holds `ks` have run out, in this order (R89). -/
structure RanOut (s t : State) (ks : List Hold) : Prop where
  records : ∀ n, t.record n = (s.record n).map fun r =>
    match ks.find? (fun h => decide (h.station = n)) with
    | none => r
    | some h => ranOut s n h.kind r
  places : ∀ i, t.place i = match s.place i with
    | none => none
    | some p => if p.tentative && ks.any (fun h => decide (h.station = p.station)) then none else some p
  list : t.noticeList = s.noticeList ++ quietOnes s (ks.map fun h => h.station)
  frame : t = { s with
    stations := t.stations, noticeList := t.noticeList, talkSeat := t.talkSeat, lanes := t.lanes
    holds := holdsLeft s ks
    privateCopy := copyKept s (holdsLeft s ks) }

theorem RanOut.refl {s : State} (laws : s.Laws [] []) : RanOut s s [] where
  records n := by simp
  places i := by cases s.place i <;> simp
  list := by simp [quietOnes]
  frame := by
    have all : holdsLeft s [] = s.holds := by simp [holdsLeft]
    rw [all, copyKept_of_iff laws.copy]

/-- An expiry takes no seat that is not tentative. -/
theorem RanOut.seatedAt_eq {s t : State} {ks : List Hold} (h : RanOut s t ks) (n : StationNo) : seatedAt t n = seatedAt s n := by
  have place (i : Option LaneNo) : t.place i = some ⟨n, false⟩ ↔ s.place i = some ⟨n, false⟩ := by
    rw [h.places]
    rcases s.place i with _ | ⟨m, _ | _⟩
    · rfl
    · rfl
    · simp
  simp only [seatedAt, place]

theorem RanOut.ranOut_eq {s t : State} {ks : List Hold} (h : RanOut s t ks) (n : StationNo) (k : HoldKind) (r : StationRecord) :
    ranOut t n k r = ranOut s n k r := by
  have owed : owedAt t n = owedAt s n := by rw [h.frame]; rfl
  rw [ranOut, h.seatedAt_eq, owed, ranOut]

/-- The copy of a shorter list of holds follows that of a longer one (R81, R88). -/
theorem copyKept_sub {s t : State} {hs hs' : List Hold} (copy : t.privateCopy = copyKept s hs) (sub : ∀ h ∈ hs', h ∈ hs) :
    copyKept t hs' = copyKept s hs' := by
  unfold copyKept
  split
  · next any =>
    obtain ⟨h, hh, kind⟩ := List.any_eq_true.mp any
    rw [copy, copyKept, if_pos (List.any_eq_true.mpr ⟨h, sub h hh, kind⟩)]
  · rfl

/-- The next hold runs out. -/
theorem RanOut.concat {s t : State} {ks : List Hold} (h : RanOut s t ks) (laws : t.Laws [] []) {k : Hold} (hk : k ∈ t.holds)
    (new : ∀ k' ∈ ks, k'.station ≠ k.station) : RanOut s (t.expireHold k) (ks ++ [k]) := by
  have unmet : ks.find? (fun h => decide (h.station = k.station)) = none := by simpa using new
  have same : t.record k.station = s.record k.station := by
    rw [h.records, unmet]
    exact Option.map_id'
  obtain ⟨r, hr, _⟩ := laws.holders k hk
  obtain ⟨records, places, list⟩ := expireHold_ranOut laws hk hr
  refine ⟨fun n => ?_, fun i => ?_, ?_, ?_⟩
  · rw [records, List.find?_append]
    split
    · next own =>
      subst own
      rw [unmet, ← same, hr, h.ranOut_eq]
      simp
    · next other =>
      have skip : [k].find? (fun h => decide (h.station = n)) = none := by simpa using Ne.symm other
      rw [h.records, skip, Option.or_none]
  · rw [places, h.places]
    rcases s.place i with _ | ⟨m, _ | _⟩
    · rfl
    · simp [withoutTentative]
    · by_cases met : ks.any (fun h => decide (h.station = m)) = true
      · simp [withoutTentative, met]
      · by_cases own : m = k.station
        · subst own
          simp [withoutTentative, met]
        · simp [withoutTentative, met, own, Ne.symm own]
  · rw [list, joins, h.list, List.map_append, quietOnes_eq, quietOnes_eq, List.filter_append, ← List.append_assoc]
    have quiet : quiet s k.station = decide (r.notices = NoticeSet.none) := having_of_record (same ▸ hr) _
    by_cases empty : r.notices = NoticeSet.none <;> simp [quiet, empty]
  · have left : holdsWithout t k.station = holdsLeft s (ks ++ [k]) := by
      have holds : t.holds = holdsLeft s ks := by rw [h.frame]
      rw [holdsWithout, holds, holdsLeft, holdsLeft, List.filter_filter]
      refine List.filter_congr fun x _ => ?_
      simp [Bool.and_comm, eq_comm]
    have copy : copyKept t (holdsWithout t k.station) = copyKept s (holdsWithout t k.station) :=
      copyKept_sub (by rw [h.frame]) fun x hx => (List.mem_of_mem_filter hx)
    rw [expireHold_frame laws hk, copy, left]
    rw [h.frame]

/-- Holds of the list that run out one after the other (R89). -/
theorem ranOut_pass {s : State} (laws : s.Laws [] []) (ks : List Hold) (sub : ∀ k ∈ ks, k ∈ s.holds)
    (nodup : (ks.map fun k => k.station).Nodup) : RanOut s (ks.foldl State.expireHold s) ks := by
  induction ks using List.reverseRecOn with
  | nil => exact .refl laws
  | append_singleton ks k ih =>
    rw [List.map_append, List.nodup_append] at nodup
    obtain ⟨nodup, _, apart⟩ := nodup
    have before : ∀ k' ∈ ks, k' ∈ s.holds := fun k' hk' => sub k' (List.mem_append_left _ hk')
    have new : ∀ k' ∈ ks, k'.station ≠ k.station := fun k' hk' =>
      apart _ (List.mem_map_of_mem hk') _ (List.mem_singleton_self _)
    rw [List.foldl_append]
    refine (ih before nodup).concat (laws.expireAll ks before nodup) ?_ new
    rw [State.mem_holds_expireAll]
    exact ⟨sub k (List.mem_append_right _ (List.mem_singleton_self k)), fun k' hk' => (new k' hk').symm⟩

/-- A timer that a law has at one millisecond or more is due with exactly one left (R80). -/
theorem timerDue_eq {t : Option Nat} (range : ∀ n, t = some n → 1 ≤ n) : timerDue t = due t := by
  cases t with
  | none => rfl
  | some n =>
    have := range n rfl
    exact decide_eq_decide.mpr (by simp; omega)

/-- A hold is left exactly if it is not due itself, since a station has one hold (R76). -/
theorem holdsLeft_due {s : State} (laws : s.Laws [] []) :
    holdsLeft s (s.holds.filter fun h => due h.remaining) = s.holds.filter fun h => !due h.remaining := by
  refine List.filter_congr fun h hh => congrArg _ ?_
  rw [Bool.eq_iff_iff, List.any_eq_true]
  constructor
  · rintro ⟨k, hk, own⟩
    obtain ⟨hk, ends⟩ := List.mem_filter.mp hk
    obtain rfl := List.inj_on_of_nodup_map laws.oneHold hk hh (of_decide_eq_true own)
    exact ends
  · exact fun ends => ⟨h, List.mem_filter.mpr ⟨hh, ends⟩, decide_eq_true rfl⟩

/-- Settles O39: the holds that are due run out one after the other, each seeing the seats and the stage as they were. -/
theorem holdExpiry : Obligations.HoldExpiry := by
  intro s inv out left
  have laws := inv.laws
  have chosen : s.holds.filter (fun h => timerDue h.remaining) = out :=
    List.filter_congr fun h hh => timerDue_eq fun n hn => (laws.timers h hh n hn).1
  have pass : RanOut s s.expireHolds out := by
    rw [State.expireHolds, chosen]
    exact ranOut_pass laws out (fun k hk => List.mem_of_mem_filter hk) (laws.oneHold.sublist (List.filter_sublist.map _))
  have kept : holdsLeft s out = left := holdsLeft_due laws
  refine ⟨_, rfl, pass.records, pass.places, pass.list, ?_⟩
  rw [← kept]
  exact pass.frame

end Sys2Proof.Proofs

/-! ## READ HOLD

The statement fails: no law of the machine bounds the body of the private frame copy, and the detail of a body of more than 24 bytes runs past byte
31 into byte 0. With a body that a PRIVATE frame can carry, at most 12 bytes, the results are as the statement has them. -/

namespace Sys2Proof.Proofs

-- One theorem after the other: each thread of its own would take a stack.
set_option Elab.async false

open Sys2Proof Sys2Proof.Machine Sys2Proof.Claims

/-- The row of READ HOLD completes the command. -/
theorem readHoldRow {s : State} (h : Ready s) : exec .readHold s = .next (readHoldCommand s.params (s.accept 0x48)).finish :=
  congrArg Host.Outcome.next (Ready.issue h 0x48 readHoldCommand)

/-! ### A copy that no PRIVATE frame leaves -/

/-- A listener with one inbound page. -/
def onePage : StationRecord where
  life := .online
  unit := 5
  width := .exact
  policy := .noPort
  acceptedPort := none
  mayTalk := false
  mayListen := true
  inRegion := some ⟨0, 1⟩
  outRegion := none
  options := ⟨false, false, false, true⟩
  triggerLine := none
  lastMatched := none
  status := 0
  request := .quiet
  mode := .unlockedLocal
  inbound := .empty
  outbound := .empty
  notices := NoticeSet.none

/-- A card within all the laws whose station 3 has a PRIVATE hold, with 25 zero bytes as the body of the copy; the host asks for the head of the
hold list. -/
def overlongCopy : State :=
  { State.reset with
    attached := true
    reception := .ready
    stations := State.reset.stations.set 3 (some onePage)
    holds := [⟨3, .privateFrame, 9, none⟩]
    privateCopy := some ⟨0, List.replicate 25 0⟩
    params := Vector.replicate 32 255 }

theorem inv_overlongCopy : overlongCopy.Inv := State.check_sound (by decide)

/-- Refutes O56: READ HOLD writes the last byte of an overlong copy over byte 0, which the statement keeps. -/
theorem not_readHold : ¬ Obligations.ReadHold := by
  intro ⟨reads, _⟩
  have ready : Ready overlongCopy := ⟨rfl, nofun⟩
  obtain ⟨t, row, _, asked, _⟩ := reads overlongCopy ⟨3, .privateFrame, 9, none⟩ inv_overlongCopy ready (.inl ⟨rfl, rfl⟩)
  obtain rfl := Host.Outcome.next.inj ((readHoldRow ready).symm.trans row)
  have overwritten : (readHoldCommand overlongCopy.params (overlongCopy.accept 0x48)).finish.params[0] = 0 := by decide
  have kept : overlongCopy.params[0] = 255 := rfl
  rw [overwritten, kept] at asked
  exact absurd asked (by decide)

/-! ### A copy of at most 12 bytes -/

theorem bytesFrom_numbers (i : Nat) (bs : List Byte) : (bytesFrom i bs).map Prod.fst = (List.range' i bs.length).map (Fin.ofNat 32) := by
  induction bs generalizing i with
  | nil => rfl
  | cons b bs ih => simp [bytesFrom, ih, List.range'_succ]

theorem mem_bytesFrom (i : Nat) (bs : List Byte) (j : Nat) (h : j < bs.length) : (Fin.ofNat 32 (i + j), bs[j]) ∈ bytesFrom i bs := by
  induction bs generalizing i j with
  | nil => cases h
  | cons b bs ih =>
    cases j with
    | zero => exact List.mem_cons_self ..
    | succ j =>
      have next := ih (i + 1) j (Nat.lt_of_succ_lt_succ h)
      rw [Nat.add_right_comm] at next
      exact List.mem_cons_of_mem _ next

/-- The results of READ HOLD stand in the bytes from 1 on, one after the other (R172). -/
theorem readHold_numbers {s : State} (short : ∀ c, s.privateCopy = some c → c.body.length ≤ 12) (h : Hold) :
    ∃ k ≤ 19, (readHoldOutcome s h).bytes.map Prod.fst = (List.range' 1 k).map (Fin.ofNat 32) := by
  unfold readHoldOutcome holdDetail
  cases h.kind with
  | port u q => exact ⟨7, by decide, rfl⟩
  | clear scope => cases scope <;> exact ⟨6, by decide, rfl⟩
  | trigger | endOfMessage => exact ⟨5, by decide, rfl⟩
  | privateFrame =>
    cases copy : s.privateCopy with
    | none => exact ⟨5, by decide, rfl⟩
    | some c =>
      have := short c copy
      refine ⟨7 + c.body.length, by omega, ?_⟩
      have numbers : (List.range' 1 (7 + c.body.length)).map (Fin.ofNat 32) =
          [1, 2, 3, 4, 5, 6, 7] ++ (bytesFrom 8 c.body).map Prod.fst := by
        rw [← List.range'_append_1, List.map_append, bytesFrom_numbers]
        rfl
      rw [numbers]
      rfl

/-- The parameter block READ HOLD leaves. -/
def readHoldParams (s : State) (h : Hold) : ParamBlock := (writeParams s.params (readHoldOutcome s h).bytes).set 31 0

theorem readHoldParams_at {s : State} {h : Hold} {i : Nat} (hi : i < 31) :
    (readHoldParams s h)[i] = (writeParams s.params (readHoldOutcome s h).bytes)[(⟨i, by omega⟩ : Fin 32)] :=
  Vector.getElem_set_ne _ _ (Nat.ne_of_gt hi)

/-- The byte of a result (R172). -/
theorem readHoldParams_result {s : State} (short : ∀ c, s.privateCopy = some c → c.body.length ≤ 12) {h : Hold} {i : Nat} (hi : i < 31)
    {b : Byte} (mem : (Fin.ofNat 32 i, b) ∈ (readHoldOutcome s h).bytes) : (readHoldParams s h)[i] = b := by
  obtain ⟨k, small, numbers⟩ := readHold_numbers short h
  have nodup : ((readHoldOutcome s h).bytes.map Prod.fst).Nodup := by
    rw [numbers]
    refine List.Nodup.map_on (fun a ha b hb e => ?_) List.nodup_range'
    have e := congrArg Fin.val e
    simp only [List.mem_range'_1, Fin.val_ofNat] at ha hb e
    omega
  have number : Fin.ofNat 32 i = ⟨i, by omega⟩ := Fin.ext (Nat.mod_eq_of_lt (by omega))
  rw [readHoldParams_at hi]
  exact writeParams_named _ s.params _ b nodup (number ▸ mem)

/-- Byte 0 keeps what the host asked for. -/
theorem readHoldParams_asked {s : State} (short : ∀ c, s.privateCopy = some c → c.body.length ≤ 12) (h : Hold) :
    (readHoldParams s h)[0] = s.params[0] := by
  obtain ⟨k, small, numbers⟩ := readHold_numbers short h
  rw [readHoldParams_at (by decide)]
  refine writeParams_other _ s.params 0 ?_
  rw [numbers, List.mem_map]
  rintro ⟨a, ha, e⟩
  have e := congrArg Fin.val e
  simp only [List.mem_range'_1, Fin.val_ofNat] at ha e
  omega

/-- The detail of a hold (R172). -/
theorem detail_readHoldParams {s : State} (short : ∀ c, s.privateCopy = some c → c.body.length ≤ 12) (h : Hold) :
    Detail s h.kind (readHoldParams s h) := by
  have result {i : Nat} (hi : i < 31) {b : Byte} (mem : (Fin.ofNat 32 i, b) ∈ holdDetail s h) : (readHoldParams s h)[i] = b :=
    readHoldParams_result short hi (List.mem_append_right _ mem)
  cases kind : h.kind with
  | port u q =>
    have six := result (i := 6) (b := BitVec.ofNat 8 u.val) (by decide) (by simp [holdDetail, kind])
    have seven := result (i := 7) (b := portByte (some q)) (by decide) (by simp [holdDetail, kind])
    exact ⟨six ▸ toNat_ofNat_byte _ (by omega), seven ▸ portByte_toNat (some q)⟩
  | clear scope =>
    cases scope with
    | all => exact congrArg BitVec.toNat (result (i := 6) (b := 0) (by decide) (by simp [holdDetail, kind]))
    | listeners => exact congrArg BitVec.toNat (result (i := 6) (b := 1) (by decide) (by simp [holdDetail, kind]))
  | trigger | endOfMessage => trivial
  | privateFrame =>
    intro c copy fits
    have detail : holdDetail s h = (6, c.code.setWidth 8) :: (7, BitVec.ofNat 8 c.body.length) :: bytesFrom 8 c.body := by
      rw [holdDetail, kind, copy]
    have six := result (i := 6) (b := c.code.setWidth 8) (by decide) (by rw [detail]; simp)
    have seven := result (i := 7) (b := BitVec.ofNat 8 c.body.length) (by decide) (by rw [detail]; simp)
    refine ⟨?_, seven ▸ toNat_ofNat_byte _ (by omega), fun i hi => ?_⟩
    · rw [six, BitVec.toNat_setWidth]
      exact Nat.mod_eq_of_lt (Nat.lt_trans c.code.isLt (by decide))
    · refine result (by omega) ?_
      rw [detail]
      exact List.mem_cons_of_mem _ (List.mem_cons_of_mem _ (mem_bytesFrom 8 c.body i hi))

/-- The command on a station that the host names (R92). -/
theorem readHoldCommand_named {p : ParamBlock} {n : StationNo} (names : p[0].toNat = n.val) (s : State) :
    readHoldCommand p s = withStation s n acceptsLive fun _ =>
      match s.pendingHold n with
      | none => .plain s .noHold
      | some h => readHoldOutcome s h := by
  have one : p[0] ≠ 255 := by have := n.isLt; bv_omega
  rw [readHoldCommand, stationField_val _ n names]
  exact if_neg one

/-- READ HOLD on a pending hold, while the copy has a body that a PRIVATE frame can carry (R81, R92): the results are as the statement of O56
has them. -/
theorem readHold_of_short {s : State} {h : Hold} (inv : s.Inv) (ready : Ready s) (short : ∀ c, s.privateCopy = some c → c.body.length ≤ 12)
    (named : (s.params[0].toNat = 255 ∧ s.holds.head? = some h) ∨ (s.params[0].toNat = h.station.val ∧ h ∈ s.holds)) :
    ∃ t, exec .readHold s = .next t ∧ t = { okay s s with params := t.params } ∧
      t.params[0] = s.params[0] ∧ t.params[1].toNat = h.station.val ∧ t.params[2].toNat = kindNumber h.kind ∧ t.params[3] = h.tag ∧
      t.params[4].toNat = h.remaining.getD 0 ∧ t.params[5].toNat = s.holds.length ∧ t.params[31] = 0 ∧ Detail s h.kind t.params := by
  have laws := inv.laws
  have laws' : (s.accept 0x48).Laws [] [] := laws.retouch (.of_frame ⟨rfl, rfl, rfl, rfl, rfl⟩ rfl rfl rfl rfl)
  have pending : h ∈ s.holds := named.elim (fun head => List.mem_of_head? head.2) And.right
  have command : readHoldCommand s.params (s.accept 0x48) = readHoldOutcome (s.accept 0x48) h := by
    rcases named with ⟨any, head⟩ | ⟨names, _⟩
    · obtain ⟨rest, holds⟩ := List.head?_eq_some_iff.mp head
      rw [readHoldCommand, if_pos (by bv_omega), show (s.accept 0x48).holds = h :: rest from holds]
    · obtain ⟨r, hr, live⟩ := laws.holders h pending
      rw [readHoldCommand_named names, withStation_accepts (s.accept 0x48) h.station _ _ r hr (decide_eq_true live),
        pendingHold_of_mem laws' pending rfl]
  have row : exec .readHold s = .next { okay s s with params := readHoldParams s h } := by
    rw [readHoldRow ready, command]
    rfl
  have byte {k i : Nat} {b : Byte} (at' : (readHoldOutcome s h).bytes[k]? = some (Fin.ofNat 32 i, b)) (hi : i < 31) :
      (readHoldParams s h)[i] = b := readHoldParams_result short hi (List.mem_of_getElem? at')
  have few : s.holds.length < 256 := by
    have := List.Nodup.length_le_card laws.oneHold
    rw [List.length_map, Fintype.card_fin] at this
    omega
  refine ⟨_, row, rfl, readHoldParams_asked short h, ?station, ?kind, ?tag, ?remaining, ?count, Vector.getElem_set_self _,
    detail_readHoldParams short h⟩
  case station => exact byte (k := 0) (i := 1) rfl (by decide) ▸ toNat_ofNat_byte _ (by omega)
  case kind => exact byte (k := 1) (i := 2) rfl (by decide) ▸ kindByte_toNat h.kind
  case tag => exact byte (k := 2) (i := 3) rfl (by decide)
  case remaining => exact byte (k := 3) (i := 4) rfl (by decide) ▸ timerByte_toNat fun t ht => (laws.timers h pending t ht).2
  case count => exact byte (k := 4) (i := 5) rfl (by decide) ▸ toNat_ofNat_byte _ few

/-- READ HOLD with no pending hold, and its refusals (R8, R92): what the statement of O56 says of them holds. -/
theorem readHold_unheld {s : State} (ready : Ready s) :
    (s.params[0].toNat = 255 → s.holds = [] → exec .readHold s = .next (refused s .empty 0)) ∧
    (∀ n r, Names s n → s.record n = some r → r.life ≠ .retired → ¬ Held s n → exec .readHold s = .next (refused s .noHold 0)) ∧
    (s.params[0].toNat ≠ 255 → Refuses .readHold live True s) := by
  refine ⟨fun any empty => ?_, fun n r names hr live free => ?_, fun one => ?_⟩
  · rw [readHoldRow ready, readHoldCommand, if_pos (by bv_omega), show (s.accept 0x48).holds = [] from empty]
    rfl
  · rw [readHoldRow ready, readHoldCommand_named names, withStation_accepts (s.accept 0x48) n _ _ r hr (decide_eq_true live),
      ((s.accept 0x48).pendingHold_eq_none n).mpr free]
    rfl
  · refine refuses_live (readHoldRow ready) (fun big => ?_) fun _ n names => ⟨_, readHoldCommand_named names _⟩
    rw [readHoldCommand, if_neg (by bv_omega), stationField_none _ big]

end Sys2Proof.Proofs

/-! ## STAGE_EXPIRY as its rules state it -/

namespace Sys2Proof.Proofs

-- One theorem after the other: each thread of its own would take a stack.
set_option Elab.async false

open Sys2Proof Sys2Proof.Machine Sys2Proof.Claims

/-- A station seated in a lane has an obligation (R19). -/
theorem hasObligation_of_lane {s : State} {n : StationNo} {l : LaneNo} (seated : s.lane l = some ⟨n, false⟩) : s.hasObligation n = true :=
  (s.hasObligation_iff n).mpr (.inl ⟨some l, ⟨n, false⟩, seated, rfl⟩)

/-- A report of R20 on a station that still has an obligation has no effect (R21). -/
theorem reportRelease_of_obligation {s : State} {n : StationNo} (obliged : s.hasObligation n = true) : State.reportRelease n s = s := by
  rw [State.reportRelease, obliged, Bool.not_true, Bool.and_false]
  rfl

theorem reportReleases_of_obligation {s : State} (ns : List StationNo) (obliged : ∀ n ∈ ns, s.hasObligation n = true) :
    s.forStations ns State.reportRelease = s := by
  induction ns with
  | nil => rfl
  | cons n ns ih =>
    rw [State.forStations_cons, reportRelease_of_obligation (obliged n (List.mem_cons_self ..))]
    exact ih fun m hm => obliged m (List.mem_cons_of_mem _ hm)

/-- A notice gives a record its first notice exactly if its set is empty (R155). -/
theorem wakes_addNotice (k : NoticeKind) :
    wakes (fun r => { r with notices := r.notices.add k }) = fun r => decide (r.notices = NoticeSet.none) :=
  funext fun r => decide_eq_decide.mpr (and_iff_left (r.notices.add_ne_none k))

/-- A stage that is due is emptied, with DATA_LOST to the stations owed, which keep their lanes and so their life states (R103, R107). -/
theorem expireStage_eq {s : State} {g : Stage} (law : s.stageLaw) (hg : s.stage = some g) (ends : timerDue g.remaining = true) :
    s.expireStage = { s.forStations g.owed (fun n t => t.addNotice n .dataLost) with stage := none } := by
  obtain ⟨_, _, _, _, _, owed⟩ := law g hg
  have lost := (reaches_addNotice .dataLost).frame_pass g.owed s
  unfold State.expireStage
  rw [hg]
  dsimp only
  rw [if_pos ends]
  refine reportReleases_of_obligation g.owed fun n hn => ?_
  obtain ⟨⟨l, seated⟩, _⟩ := owed n hn
  rw [lost]
  exact hasObligation_of_lane (l := l) seated

/-- A stage that is not due, or none, is left alone (R107). -/
theorem expireStage_of_not_due {s : State} (waits : ∀ g t, s.stage = some g → g.remaining = some t → 1 < t) : s.expireStage = s := by
  unfold State.expireStage
  split
  · rfl
  · next g hg =>
    refine if_neg fun ends => ?_
    cases ht : g.remaining with
    | none => rw [ht] at ends; cases ends
    | some t =>
      rw [ht] at ends
      have := of_decide_eq_true (p := t ≤ 1) ends
      have := waits g t hg ht
      omega

/-- Settles O40: the stations owed are given DATA_LOST one after the other, and their lanes keep the reports of R20 from retiring them. -/
theorem stageExpiry : Obligations.StageExpiry := by
  refine ⟨fun s g inv hg timer => ?expires, fun s waits => congrArg Host.Outcome.next (expireStage_of_not_due waits)⟩
  case expires =>
    obtain ⟨_, _, _, ascending, _, _⟩ := inv.stage g hg
    have nodup : g.owed.Nodup := ascending.imp fun less => ne_of_lt less
    have lost := reaches_addNotice .dataLost
    have expired := expireStage_eq inv.stage hg (by rw [timer]; rfl)
    refine ⟨_, congrArg Host.Outcome.next expired, fun n => ?_, ?_, ?_⟩
    · refine (lost.record_pass g.owed nodup s trivial n).trans ?_
      split
      · rfl
      · exact Option.map_id'.symm
    · refine (lost.noticeList_pass g.owed nodup s trivial).trans ?_
      simp only [wakes_addNotice]
      rfl
    · rw [lost.frame_pass g.owed s]

end Sys2Proof.Proofs

/-! ## DATA frames as their rules state them -/

namespace Sys2Proof.Proofs

-- One theorem after the other: each thread of its own would take a stack.
set_option Elab.async false

open Sys2Proof Sys2Proof.Machine Sys2Proof.Claims

/-! ### The frame offered to one station -/

/-- The frame closes the region of the record, so that INBOUND_COMPLETE is added (R98, R99). -/
def closing (body : List Byte) (endMark : Bool) (r : StationRecord) : Bool :=
  !r.inbound.isComplete && (inboundOffered r body endMark).isComplete

/-- The record once the frame has been offered to it (R97 to R99). -/
def offered (body : List Byte) (endMark : Bool) (r : StationRecord) : StationRecord :=
  { r with
    inbound := inboundOffered r body endMark
    notices := if closing body endMark r then r.notices.add .inboundComplete else r.notices }

/-- The notice list once the frame has been offered to the station (R155). -/
def listOffered (s : State) (body : List Byte) (endMark : Bool) (n : StationNo) (r : StationRecord) : List StationNo :=
  if closing body endMark r then joins s n r else s.noticeList

/-- The address of the next byte stored for the record (R96, R98). -/
def fillAddress (r : StationRecord) : Nat := regionBase r.inRegion + r.inbound.fill

/-- The statement's test of room is the model's (R97). -/
theorem takes_eq {s : State} {n : StationNo} {r : StationRecord} (hr : s.record n = some r) (body : List Byte) :
    takes s body n = r.hasRoom body.length := by
  rw [takes, having_of_record hr, StationRecord.hasRoom]
  cases r.inbound with
  | empty | filling f => exact (Bool.true_and _).symm
  | complete f c => rfl

/-- A body that fits is stored by R98, in a region not COMPLETE. -/
theorem inboundOffered_of_room {r : StationRecord} {body : List Byte} (room : r.hasRoom body.length = true) (endMark : Bool) :
    inboundOffered r body endMark = inboundAfter (r.inbound.fill + body.length) (regionCapacity r.inRegion) endMark ∧
      r.inbound.isComplete = false := by
  simp only [StationRecord.hasRoom, Bool.and_eq_true, Bool.not_eq_true', decide_eq_true_eq] at room
  obtain ⟨incomplete, fits⟩ := room
  refine ⟨?_, incomplete⟩
  unfold inboundOffered
  cases hi : r.inbound with
  | empty | filling f =>
    rw [hi] at fits
    exact if_neg (Nat.not_lt_of_le fits)
  | complete f c => rw [hi] at incomplete; cases incomplete

/-- A body that does not fit closes a region not COMPLETE as it stands (R99). -/
theorem inboundOffered_of_full {r : StationRecord} {body : List Byte} (full : r.hasRoom body.length = false)
    (incomplete : ∀ f c, r.inbound ≠ .complete f c) (endMark : Bool) : inboundOffered r body endMark = .complete r.inbound.fill true := by
  unfold StationRecord.hasRoom at full
  unfold inboundOffered
  cases hi : r.inbound with
  | empty | filling f =>
    rw [hi] at full
    exact if_pos (Nat.lt_of_not_le (of_decide_eq_false full))
  | complete f c => exact absurd hi (incomplete f c)

/-- A COMPLETE region is left as it is (R99). -/
theorem offered_of_complete {r : StationRecord} {f : Nat} {c : Bool} (complete : r.inbound = .complete f c) (body : List Byte)
    (endMark : Bool) : closing body endMark r = false ∧ offered body endMark r = r := by
  have closed : closing body endMark r = false := by rw [closing, complete]; rfl
  have kept : inboundOffered r body endMark = r.inbound := by rw [inboundOffered, complete]
  refine ⟨closed, ?_⟩
  rw [offered, closed, kept]
  rfl

/-- The inbound of a record replaced, with INBOUND_COMPLETE when its region closes. -/
theorem inbound_replaced {s : State} {n : StationNo} {r : StationRecord} (hr : s.record n = some r) (body : List Byte) (endMark : Bool) :
    (if closing body endMark r then
      (s.updateRecord n fun q => { q with inbound := inboundOffered r body endMark }).addNotice n .inboundComplete
    else s.updateRecord n fun q => { q with inbound := inboundOffered r body endMark }) =
      { s.setRecord n (some (offered body endMark r)) with noticeList := listOffered s body endMark n r } := by
  rw [updateRecord_eq_setRecord hr]
  unfold listOffered offered
  cases closing body endMark r with
  | true =>
    rw [if_pos rfl, addNotice_eq (State.record_setRecord_self ..), setRecord_setRecord]
    rfl
  | false => rfl

/-- The body stored for a station with room for it (R98). -/
theorem storeFrame_eq {s : State} {n : StationNo} {r : StationRecord} (hr : s.record n = some r) {body : List Byte}
    (room : r.hasRoom body.length = true) (endMark : Bool) : s.storeFrame n body endMark =
      { s.setRecord n (some (offered body endMark r)) with
        noticeList := listOffered s body endMark n r
        memory := Memory.writeList s.memory (fillAddress r) body } := by
  obtain ⟨after, incomplete⟩ := inboundOffered_of_room room endMark
  have closes : closing body endMark r = (inboundOffered r body endMark).isComplete := by rw [closing, incomplete]; rfl
  unfold State.storeFrame
  rw [hr]
  dsimp only
  rw [← after, ← closes]
  exact inbound_replaced (s := { s with memory := Memory.writeList s.memory (fillAddress r) body }) hr body endMark

/-- The region of a station without room closed as it stands, or left COMPLETE (R99). -/
theorem closeUnfinished_eq {s : State} {n : StationNo} {r : StationRecord} (hr : s.record n = some r) {body : List Byte}
    (full : r.hasRoom body.length = false) (endMark : Bool) : s.closeUnfinished n =
      { s.setRecord n (some (offered body endMark r)) with noticeList := listOffered s body endMark n r } := by
  unfold State.closeUnfinished
  rw [hr]
  dsimp only
  split
  · next f c complete =>
    obtain ⟨closed, same⟩ := offered_of_complete complete body endMark
    rw [same, listOffered, closed, ← hr, State.setRecord_record]
    rfl
  · next incomplete =>
    have after := inboundOffered_of_full full incomplete endMark
    have closes : closing body endMark r = true := by
      rw [closing, after]
      cases hi : r.inbound with
      | empty | filling f => rfl
      | complete f c => exact absurd hi (incomplete f c)
    rw [← inbound_replaced hr, closes, if_pos rfl, after]

/-- What is read once bytes have been stored at consecutive addresses. -/
theorem readByte_stored {s t : State} {a : Nat} {vs : List Byte} (memory : t.memory = Memory.writeList s.memory a vs)
    (powerOns : t.powerOns = s.powerOns) :
    (∀ i, (h : i < vs.length) → t.readByte (a + i) = vs[i]) ∧
      ∀ b, ¬ (a ≤ b ∧ b < a + vs.length) → t.readByte b = s.readByte b := by
  have read (b : Nat) := (State.readByte_congr (s := { s with memory := Memory.writeList s.memory a vs }) memory powerOns b).trans
    (s.readByte_writeList a b vs)
  refine ⟨fun i h => ?_, fun b outside => ?_⟩
  · rw [read, if_pos (Nat.le_add_right a i), Nat.add_sub_cancel_left, List.getElem?_eq_getElem h]
  · rw [read]
    split
    · next reached => rw [List.getElem?_eq_none (by omega)]
    · rfl

/-- The address is one of those that the body takes in the region of a record with room for it (R97, R98). -/
def storesAt (body : List Byte) (r : StationRecord) (a : Nat) : Prop :=
  r.hasRoom body.length = true ∧ fillAddress r ≤ a ∧ a < fillAddress r + body.length

/-- From `p` to `q` the frame has been offered to one station with a record (R97 to R99). -/
structure OfferedTo (body : List Byte) (endMark : Bool) (p q : DataPass) (n : StationNo) (r : StationRecord) : Prop where
  records : ∀ m, q.state.record m = if m = n then some (offered body endMark r) else p.state.record m
  list : q.state.noticeList = listOffered p.state body endMark n r
  stored : r.hasRoom body.length = true → ∀ i, (h : i < body.length) → q.state.readByte (fillAddress r + i) = body[i]
  kept : ∀ a, ¬ storesAt body r a → q.state.readByte a = p.state.readByte a
  endHolds : q.endHolds = if r.hasRoom body.length && endMark && r.options.onEnd then p.endHolds ++ [n] else p.endHolds
  owed : q.owed = if r.hasRoom body.length then p.owed else p.owed ++ [n]
  frame : q.state =
    { p.state with stations := q.state.stations, noticeList := q.state.noticeList, memory := q.state.memory }

theorem offeredTo {p : DataPass} {n : StationNo} {r : StationRecord} (hr : p.state.record n = some r) (live : r.life ≠ .retired)
    (body : List Byte) (endMark : Bool) : OfferedTo body endMark p (p.offer body endMark n) n r := by
  unfold DataPass.offer
  rw [hr]
  dsimp only
  rw [if_neg live]
  cases room : r.hasRoom body.length with
  | true =>
    rw [if_pos rfl, storeFrame_eq hr room endMark]
    obtain ⟨stored, kept⟩ := readByte_stored (s := p.state) (t := { p.state.setRecord n (some (offered body endMark r)) with
      noticeList := listOffered p.state body endMark n r, memory := Memory.writeList p.state.memory (fillAddress r) body }) rfl rfl
    exact {
      records := fun m => p.state.record_setRecord n m _
      list := rfl
      stored := fun _ => stored
      kept := fun a outside => kept a fun reached => outside ⟨room, reached⟩
      endHolds := by rw [room]; rfl
      owed := by rw [room]; rfl
      frame := rfl }
  | false =>
    rw [if_neg Bool.false_ne_true, closeUnfinished_eq hr room endMark]
    exact {
      records := fun m => p.state.record_setRecord n m _
      list := rfl
      stored := fun e => absurd (room.symm.trans e) Bool.false_ne_true
      kept := fun _ _ => rfl
      endHolds := by rw [room]; rfl
      owed := by rw [room]; rfl
      frame := rfl }

/-! ### The frame offered to the listeners, one after the other -/

/-- The body stays within the region of a record with room for it (R97). -/
theorem storesAt_region {body : List Byte} {r : StationRecord} {a : Nat} (h : storesAt body r a) :
    ∃ g, r.inRegion = some g ∧ g.contains a = true := by
  obtain ⟨room, first, last⟩ := h
  simp only [StationRecord.hasRoom, Bool.and_eq_true, decide_eq_true_eq] at room
  have fits := room.2
  unfold fillAddress at first last
  cases hg : r.inRegion with
  | none =>
    simp only [hg, regionBase, regionCapacity] at fits first last
    omega
  | some g =>
    simp only [hg, regionBase, regionCapacity] at fits first last
    refine ⟨g, rfl, ?_⟩
    simp only [Region.contains, Bool.and_eq_true, decide_eq_true_eq]
    omega

/-- No two live stations store the body at the same address (R13). -/
theorem storesAt_apart {s : State} (regions : s.regionLaw) {body : List Byte} {n m : StationNo} {r q : StationRecord} {a : Nat}
    (hr : s.record n = some r) (hq : s.record m = some q) (live : r.life ≠ .retired) (live' : q.life ≠ .retired)
    (h : storesAt body r a) (h' : storesAt body q a) : n = m := by
  obtain ⟨g, hg, ha⟩ := storesAt_region h
  obtain ⟨g', hg', ha'⟩ := storesAt_region h'
  exact (regions.2 n m r q true true g g' a hr hq live live' hg hg' ha ha').1

/-- From `s` to the frame half taken `p` the stations `ns` have been offered the frame, in this order (R97 to R100). -/
structure Offered (s : State) (body : List Byte) (endMark : Bool) (ns : List StationNo) (p : DataPass) : Prop where
  records : ∀ n, p.state.record n = (s.record n).map fun r => if n ∈ ns then offered body endMark r else r
  list : p.state.noticeList = s.noticeList ++ quietOnes s (ns.filter (Claims.closes s body endMark))
  stored : ∀ n ∈ ns, ∀ r, s.record n = some r → r.hasRoom body.length = true →
    ∀ i, (h : i < body.length) → p.state.readByte (fillAddress r + i) = body[i]
  kept : ∀ a, (∀ n ∈ ns, ∀ r, s.record n = some r → ¬ storesAt body r a) → p.state.readByte a = s.readByte a
  endHolds : p.endHolds = ns.filter fun n => takes s body n && endMark && having s (fun r => r.options.onEnd) n
  owed : p.owed = ns.filter fun n => !takes s body n
  frame : p.state = { s with stations := p.state.stations, noticeList := p.state.noticeList, memory := p.state.memory }

theorem Offered.refl (s : State) (body : List Byte) (endMark : Bool) : Offered s body endMark [] ⟨s, [], []⟩ where
  records n := by simp
  list := by simp [quietOnes]
  stored n hn := by cases hn
  kept _ _ := rfl
  endHolds := rfl
  owed := rfl
  frame := rfl

/-- The next station is offered the frame. -/
theorem Offered.concat {s : State} {body : List Byte} {endMark : Bool} {ns : List StationNo} {p : DataPass}
    (h : Offered s body endMark ns p) (regions : s.regionLaw) {k : StationNo} (live : ∀ n ∈ ns ++ [k], s.LiveAt n) (new : k ∉ ns) :
    Offered s body endMark (ns ++ [k]) (p.offer body endMark k) := by
  obtain ⟨r, hr, hl⟩ := live k (List.mem_append_right _ (List.mem_singleton_self k))
  have own : p.state.record k = some r := by rw [h.records, hr]; simp [new]
  have step := offeredTo own hl body endMark
  have takesIt : takes s body k = r.hasRoom body.length := takes_eq hr body
  refine ⟨fun n => ?records, ?list, fun n hn q hq room i hi => ?stored, fun a outside => ?kept, ?endHolds, ?owed, ?frame⟩
  case records =>
    rw [step.records]
    split
    · next e => subst e; rw [hr]; simp
    · next other => rw [h.records]; simp [other]
  case list =>
    have closesIt : Claims.closes s body endMark k = closing body endMark r := having_of_record hr _
    have quietIt : quiet s k = decide (r.notices = NoticeSet.none) := having_of_record hr _
    rw [step.list, listOffered, joins, h.list, quietOnes_eq, quietOnes_eq, List.filter_append, List.filter_append, ← List.append_assoc]
    cases closed : closing body endMark r <;> by_cases empty : r.notices = NoticeSet.none <;> simp [closesIt, quietIt, closed, empty]
  case stored =>
    rcases List.mem_append.mp hn with before | last
    · rw [step.kept _ fun at' => ?_, h.stored n before q hq room i hi]
      obtain ⟨_, hq', hl'⟩ := live n hn
      obtain rfl := Option.some.inj (hq.symm.trans hq')
      exact new (storesAt_apart regions hq hr hl' hl ⟨room, by omega, by omega⟩ at' ▸ before)
    · obtain rfl := List.mem_singleton.mp last
      obtain rfl := Option.some.inj (hr.symm.trans hq)
      exact step.stored room i hi
  case kept =>
    rw [step.kept a (outside k (List.mem_append_right _ (List.mem_singleton_self k)) r hr)]
    exact h.kept a fun n hn => outside n (List.mem_append_left _ hn)
  case endHolds =>
    have wants : having s (fun r => r.options.onEnd) k = r.options.onEnd := having_of_record hr _
    rw [step.endHolds, h.endHolds, List.filter_append, List.filter_singleton, takesIt, wants]
    cases r.hasRoom body.length && endMark && r.options.onEnd <;> simp
  case owed =>
    rw [step.owed, h.owed, List.filter_append, List.filter_singleton, takesIt]
    cases r.hasRoom body.length <;> simp
  case frame => rw [step.frame, h.frame]

theorem offered_pass {s : State} (regions : s.regionLaw) (body : List Byte) (endMark : Bool) (ns : List StationNo)
    (live : ∀ n ∈ ns, s.LiveAt n) (nodup : ns.Nodup) :
    Offered s body endMark ns (ns.foldl (DataPass.offer body endMark) ⟨s, [], []⟩) := by
  induction ns using List.reverseRecOn with
  | nil => exact .refl s body endMark
  | append_singleton ns k ih =>
    obtain ⟨before, _, apart⟩ := List.nodup_append.mp nodup
    rw [List.foldl_append]
    exact (ih (fun n hn => live n (List.mem_append_left _ hn)) before).concat regions live fun hk =>
      apart k hk k (List.mem_singleton_self k) rfl

/-! ### The whole frame -/

/-- The stage formed for the stations owed, in ascending number (R102, R104). -/
theorem formStage_eq {s : State} (stage : s.stage = none) (body : List Byte) (endMark : Bool) (owed : List StationNo) :
    s.formStage body endMark owed =
      let waiting := stationNumbers.filter fun n => decide (n ∈ owed)
      { s with stage := if waiting = [] then none else some ⟨body, endMark, waiting, timer s⟩ } := by
  have nobody : stationNumbers.filter (fun n => decide (n ∈ owed)) = [] ↔ owed = [] := by
    simp [stationNumbers, List.eq_nil_iff_forall_not_mem]
  unfold State.formStage
  dsimp only
  simp only [nobody, ← startTimer_eq]
  split
  · rw [← stage]
  · rfl

theorem owedBy_eq (s : State) (body : List Byte) :
    owedBy s body = stationNumbers.filter fun n => decide (n ∈ s.listeners.filter fun n => !takes s body n) :=
  List.filter_congr fun n _ => by simp [List.mem_filter]

/-- A DATA frame, taken while the stage is empty: the END holds and the stage follow the stores (R100). -/
theorem takeData_eq {s : State} (stage : s.stage = none) {body : List Byte} {endMark : Bool} {p : DataPass}
    (h : Offered s body endMark s.listeners p) (pass : s.listeners.foldl (DataPass.offer body endMark) ⟨s, [], []⟩ = p) :
    s.takeData endMark body = { p.state with
      holds := s.holds ++ raised s ((endHolders s body endMark).map fun n => (n, .endOfMessage))
      holdTag := s.holdTag + BitVec.ofNat 8 (endHolders s body endMark).length
      stage := if owedBy s body = [] then none else some ⟨body, endMark, owedBy s body, timer s⟩ } := by
  have empty : p.state.stage = none := by rw [h.frame]; exact stage
  have holders : p.endHolds = endHolders s body endMark := h.endHolds
  unfold State.takeData
  rw [pass]
  dsimp only
  rw [raiseAll_eq]
  refine (formStage_eq ?empty body endMark p.owed).trans ?_
  case empty => exact empty
  rw [h.owed, ← owedBy_eq, holders, h.frame]
  rfl

theorem dataFrame_eq {endMark : Bool} {body : List Byte} (sound : (dataFrame endMark body).isSome = true) :
    dataFrame endMark body = some (.data endMark body) := by
  unfold dataFrame at sound ⊢
  split
  · rfl
  · next unsound => rw [if_neg unsound] at sound; cases sound

/-- Settles O25: the frame is taken at its end, when no hold is pending and the stage is empty, by listeners whose regions are apart. -/
theorem dataTaken : Obligations.DataTaken := by
  intro s endMark body inv ⟨on, receiving⟩ sound
  have idle := inv.link.idle on receiving
  have laws := inv.laws
  have taken : exec (.data endMark body) s = .next (s.frameOver.takeData endMark body) := by
    rw [exec_of_rowFrame (c := .data endMark body) (dataFrame_eq sound), s.frameEnds_taken _ on receiving]
    rfl
  have live (n : StationNo) (hn : n ∈ s.listeners) : s.LiveAt n := by
    obtain ⟨r, hr, live, _⟩ := laws.listener ((s.mem_listeners n).mp hn)
    exact ⟨r, hr, live⟩
  have pass := offered_pass (s := s.frameOver) inv.regions body endMark s.listeners live laws.listeners_nodup
  rw [takeData_eq (s := s.frameOver) idle.2 pass rfl] at taken
  refine ⟨_, taken, fun n => ?records, fun n r i hn takes hr hi => ?stored, fun a outside => ?kept, pass.list, ?holds, rfl, rfl, ?frame⟩
  case records =>
    refine (pass.records n).trans (Option.map_congr fun r hr => ?_)
    have closesIt : Claims.closes s body endMark n = closing body endMark r := having_of_record hr _
    rw [closesIt]
    rfl
  case stored => exact pass.stored n hn r hr ((takes_eq hr body).symm.trans takes) i hi
  case kept => exact pass.kept a fun n hn r hr ⟨room, at'⟩ => outside n r hn ((takes_eq hr body).trans room) hr at'
  case holds => exact congrArg (· ++ _) idle.1
  case frame => rw [pass.frame]; rfl

end Sys2Proof.Proofs

/-! ## RELEASE INBOUND as its rules state it -/

namespace Sys2Proof.Proofs

-- One theorem after the other: each thread of its own would take a stack.
set_option Elab.async false

open Sys2Proof Sys2Proof.Machine Sys2Proof.Claims

/-! ### The staged frame delivered -/

/-- The record with its region released (R105). -/
def emptied (r : StationRecord) : StationRecord := { r with inbound := .empty }

/-- A region of a live listener, once released, has room for a staged frame (R4, R102). -/
theorem hasRoom_emptied {r : StationRecord} (sound : r.Sound) (live : r.life ≠ .retired) (listener : r.mayListen = true) {len : Nat}
    (short : len ≤ 32) : (emptied r).hasRoom len = true := by
  obtain ⟨g, hg⟩ := Option.ne_none_iff_exists'.mp (sound.inRegion_iff.mpr ⟨listener, live⟩)
  obtain ⟨page, _, _⟩ := sound.range live true g hg
  have capacity : regionCapacity r.inRegion = g.count * 32 := by rw [hg]; rfl
  have fits : 0 + len ≤ regionCapacity r.inRegion := by omega
  exact decide_eq_true fits

/-- The staged frame stored for a station, with the END hold if the station has hold-on-end, and the station's leaving of the owed set
(R106). -/
def delivered (s : State) (n : StationNo) (g : Stage) (r : StationRecord) : State :=
  let hold := g.endMark && r.options.onEnd
  { s.setRecord n (some (offered g.body g.endMark r)) with
    noticeList := listOffered s g.body g.endMark n r
    memory := Memory.writeList s.memory (fillAddress r) g.body
    holds := if hold then s.holds ++ raised s [(n, .endOfMessage)] else s.holds
    holdTag := if hold then s.holdTag + 1 else s.holdTag
    stage := stageWithout s n }

theorem record_delivered (s : State) (n : StationNo) (g : Stage) (r : StationRecord) :
    (delivered s n g r).record n = some (offered g.body g.endMark r) := s.record_setRecord_self n _

/-- A delivery to a station that is seated in a lane, whose seat keeps the report of R20 from retiring it (R103, R106). -/
theorem deliverStaged_seated {s : State} {n : StationNo} {r : StationRecord} {l : LaneNo} (hr : s.record n = some r)
    (seated : s.lane l = some ⟨n, false⟩) (g : Stage) (room : r.hasRoom g.body.length = true) :
    s.deliverStaged n g = delivered s n g r := by
  have tag : s.holdTag + BitVec.ofNat 8 0 = s.holdTag := BitVec.add_zero _
  have raise : raised s [(n, .endOfMessage)] = [⟨n, .endOfMessage, s.holdTag, s.startTimer⟩] := by
    rw [startTimer_eq]
    exact congrArg (fun t => [(⟨n, .endOfMessage, t, timer s⟩ : Hold)]) tag
  unfold State.deliverStaged delivered
  rw [storeFrame_eq hr room, hr, raise]
  dsimp only
  rw [State.leaveOwed_frame, reportRelease_of_obligation]
  · cases g.endMark && r.options.onEnd <;> rfl
  · refine hasObligation_of_lane (l := l) ?_
    cases g.endMark && r.options.onEnd <;> exact seated

/-! ### The result bytes -/

/-- The command completed with the bytes of RELEASE INBOUND (R105, R172). -/
theorem finish_released {t : State} {n : StationNo} {r : StationRecord} (hr : t.record n = some r) (given : Bool) :
    (CommandOutcome.mk t .ok 0 (releaseBytes t n given)).finish = completed t .ok (releaseResult t.params (bitAt given 0) r.inbound) := by
  have low : lowByte r.inbound.fill = BitVec.ofNat 8 (r.inbound.fill % 256) := BitVec.eq_of_toNat_eq (by simp [lowByte])
  rw [releaseBytes, hr]
  unfold releaseResult
  rw [← low]
  dsimp only
  rcases r.inbound with _ | f | ⟨f, _ | _⟩ <;> rfl

/-! ### The command -/

theorem releaseInboundRow {s : State} (h : Ready s) :
    exec .releaseInbound s = .next (releaseInboundCommand s.params (s.accept 0x38)).finish :=
  congrArg Host.Outcome.next (Ready.issue h 0x38 releaseInboundCommand)

/-- A region that is not COMPLETE is refused (R105). -/
theorem releaseInbound_notHeld {p : ParamBlock} {s : State} {n : StationNo} {r : StationRecord} (names : p[0].toNat = n.val)
    (hr : s.record n = some r) (live : r.life ≠ .retired) (open' : r.inbound.isComplete = false) :
    releaseInboundCommand p s = .plain s .inboundNotHeld := by
  rw [releaseInboundCommand, stationField_val _ n names]
  dsimp only
  rw [withStation_accepts s n _ _ r hr (decide_eq_true live), open']
  rfl

/-- A COMPLETE region is released, and nothing else happens to a station that is not owed the staged frame (R105). -/
theorem releaseInbound_unowed {p : ParamBlock} {s : State} {n : StationNo} {r : StationRecord} (names : p[0].toNat = n.val)
    (hr : s.record n = some r) (live : r.life ≠ .retired) (complete : r.inbound.isComplete = true) (unowed : ¬ Owed s n) :
    let t := s.setRecord n (some (emptied r))
    releaseInboundCommand p s = ⟨t, .ok, 0, releaseBytes t n false⟩ := by
  rw [releaseInboundCommand, stationField_val _ n names]
  dsimp only
  rw [withStation_accepts s n _ _ r hr (decide_eq_true live), if_pos complete, updateRecord_eq_setRecord hr]
  split
  · rfl
  · next g hg => exact if_neg fun owed => unowed ⟨g, hg, owed⟩

/-- A station owed the staged frame has it delivered into the region it releases (R106). -/
theorem releaseInbound_owed {p : ParamBlock} {s : State} {n : StationNo} {r : StationRecord} {g : Stage} (names : p[0].toNat = n.val)
    (hr : s.record n = some r) (live : r.life ≠ .retired) (complete : r.inbound.isComplete = true) (hg : s.stage = some g)
    (owed : n ∈ g.owed) :
    let t := (s.setRecord n (some (emptied r))).deliverStaged n g
    releaseInboundCommand p s = ⟨t, .ok, 0, releaseBytes t n true⟩ := by
  rw [releaseInboundCommand, stationField_val _ n names]
  dsimp only
  rw [withStation_accepts s n _ _ r hr (decide_eq_true live), if_pos complete, updateRecord_eq_setRecord hr, hg]
  exact if_pos owed

/-- Settles O54: the owed station's seat keeps it live, and its released region has room for the staged frame. -/
theorem releaseInbound : Obligations.ReleaseInbound := by
  refine ⟨fun s n r f c ready names hr live complete unowed => ?unowed, fun s n r g inv ready names hr hg owed => ?owed,
    fun s n r ready names hr live held => ?notHeld, fun s ready => ?refused⟩
  case unowed =>
    have closed : r.inbound.isComplete = true := by rw [complete]; rfl
    rw [releaseInboundRow ready, releaseInbound_unowed (s := s.accept 0x38) names hr live closed unowed,
      finish_released (State.record_setRecord_self ..)]
    rfl
  case owed =>
    obtain ⟨short, _, _, _, _, waiting⟩ := inv.stage g hg
    obtain ⟨⟨l, seated⟩, _, q, hq, complete⟩ := waiting n owed
    obtain rfl := Option.some.inj (hr.symm.trans hq)
    obtain ⟨q, hq, live, listener⟩ := inv.laws.listener ⟨l, seated⟩
    obtain rfl := Option.some.inj (hr.symm.trans hq)
    have room := hasRoom_emptied (inv.laws.records n r hr).1 live listener short
    intro after hold
    have row := releaseInboundRow ready
    rw [releaseInbound_owed (s := s.accept 0x38) names hr live complete hg owed,
      deliverStaged_seated (s := (s.accept 0x38).setRecord n (some (emptied r))) (State.record_setRecord_self ..) seated g room,
      finish_released (record_delivered ..)] at row
    obtain ⟨stored, kept⟩ := readByte_stored (s := s) (t := delivered s n g (emptied r)) rfl rfl
    refine ⟨_, row, fun m => ?records, stored, kept, rfl, rfl⟩
    refine (State.record_setRecord _ n m _).trans ?_
    split
    · rfl
    · next other => exact (State.record_setRecord _ n m _).trans (if_neg other)
  case notHeld =>
    have open' : r.inbound.isComplete = false := by
      cases hi : r.inbound with
      | empty | filling f => rfl
      | complete f c => exact absurd hi (held f c)
    rw [releaseInboundRow ready, releaseInbound_notHeld (s := s.accept 0x38) names hr live open']
    rfl
  case refused =>
    refine refuses_live (releaseInboundRow ready) (fun big => ?_) fun _ n names => ?_
    · rw [releaseInboundCommand, stationField_none _ big]
    · rw [releaseInboundCommand, stationField_val _ n names]
      exact ⟨_, rfl⟩

end Sys2Proof.Proofs

/-! ## FETCH as its rules state it -/

namespace Sys2Proof.Proofs

-- One theorem after the other: each thread of its own would take a stack.
set_option Elab.async false

open Sys2Proof Sys2Proof.Machine Sys2Proof.Claims

/-- A FETCH in reception is taken at its end (R117). -/
theorem fetchRow {s : State} (h : InFrame s) : exec .fetch s = .next s.frameOver.takeFetch := by
  obtain ⟨on, receiving⟩ := h
  rw [exec_of_rowFrame (c := .fetch) rfl, s.frameEnds_taken _ on receiving]
  rfl

/-! ### The reply by the talker's outbound -/

theorem takeFetch_untalked {s : State} (seat : s.talkSeat = none) : s.takeFetch = s := by
  rw [State.takeFetch, seat]
  rfl

section
variable {s : State} {n : StationNo} {r : StationRecord} {len c : Nat} {e : Bool}

theorem takeFetch_empty (seat : s.talkSeat = some ⟨n, false⟩) (hr : s.record n = some r) (ho : r.outbound = .empty) :
    s.takeFetch = { s with replyWaiting := some (.reply false true []) } := by
  simp only [State.takeFetch, seat, seatedIn, hr, ho]

theorem takeFetch_closing (seat : s.talkSeat = some ⟨n, false⟩) (hr : s.record n = some r) (ho : r.outbound = .closing len e c) :
    s.takeFetch = { s.outboundDone n with replyWaiting := some (.reply true false []) } := by
  simp only [State.takeFetch, seat, seatedIn, hr, ho]

/-- A POSTED message is sent from its first byte on and a SENDING one from its cursor on (R119). -/
theorem takeFetch_chunk (seat : s.talkSeat = some ⟨n, false⟩) (hr : s.record n = some r)
    (ho : (r.outbound = .posted len e ∧ c = 0) ∨ r.outbound = .sending len e c) :
    s.takeFetch = s.sendChunk n r len e c := by
  obtain ⟨ho, rfl⟩ | ho := ho <;> simp only [State.takeFetch, seat, seatedIn, hr, ho]

/-- The end of a message on a record at hand (R119, R120). -/
theorem outboundDone_eq (hr : s.record n = some r) : s.outboundDone n =
    { s.setRecord n (some { r with outbound := .empty, notices := { r.notices with outboundDone := true } }) with
      noticeList := joins s n r } := by
  rw [State.outboundDone, updateRecord_eq_setRecord hr, addNotice_eq (State.record_setRecord_self ..), setRecord_setRecord]
  rfl

/-- A chunk that brings the cursor to the posted length. -/
theorem sendChunk_last (last : c + min 32 (len - c) = len) : s.sendChunk n r len e c =
    { s.outboundDone n with
      replyWaiting := some (.reply e false (s.readBytes (regionBase r.outRegion + c) (min 32 (len - c)))) } :=
  if_pos last.ge

/-- A chunk that leaves the cursor below the posted length. -/
theorem sendChunk_more (hr : s.record n = some r) (more : c + min 32 (len - c) < len) : s.sendChunk n r len e c =
    { s.setRecord n (some { r with outbound := .sending len e (c + min 32 (len - c)) }) with
      replyWaiting := some (.reply false false (s.readBytes (regionBase r.outRegion + c) (min 32 (len - c)))) } := by
  rw [← updateRecord_eq_setRecord hr fun r => { r with outbound := .sending len e (c + min 32 (len - c)) }]
  exact if_neg (Nat.not_le_of_lt more)

end

/-- Settles O26: the talker's EMPTY outbound decides the reply. -/
theorem fetchNotReady : Obligations.FetchNotReady := by
  intro s n r inFrame seat hr empty
  rw [fetchRow inFrame, takeFetch_empty (s := s.frameOver) seat hr empty]
  rfl

/-- Settles O27: the talker's outbound decides the reply, and whether the chunk reaches the posted length decides what is left of the
message. -/
theorem fetchSends : Obligations.FetchSends := by
  refine ⟨fun s n r g len e c inFrame seat hr hg cursor ho => ?chunk, fun s n r len e c inFrame seat hr ho => ?closing,
    fun s inFrame untalked => ?untalked⟩
  case chunk =>
    have base : regionBase r.outRegion = g.first.val * 32 := by rw [hg]; rfl
    rw [fetchRow inFrame, takeFetch_chunk (s := s.frameOver) seat hr ho]
    dsimp only
    split
    · next last =>
      rw [sendChunk_last last, outboundDone_eq (s := s.frameOver) hr, base]
      rfl
    · next short =>
      have more : c + min 32 (len - c) < len := by omega
      rw [sendChunk_more (s := s.frameOver) hr more, base]
      rfl
  case closing =>
    rw [fetchRow inFrame, takeFetch_closing (s := s.frameOver) seat hr ho, outboundDone_eq (s := s.frameOver) hr]
    rfl
  case untalked =>
    rw [fetchRow inFrame, takeFetch_untalked (s := s.frameOver) untalked]
    rfl

end Sys2Proof.Proofs

/-! ## POST OUTBOUND and CANCEL OUTBOUND as their rules state them -/

namespace Sys2Proof.Proofs

-- One theorem after the other: each thread of its own would take a stack.
set_option Elab.async false

open Sys2Proof Sys2Proof.Machine Sys2Proof.Claims

/-! ### The checks of a command on an ONLINE station -/

/-- A command for an ONLINE station makes the refusals of R8. -/
theorem refuses_online {s : State} {c : Instr} {code : Byte} {act : ParamBlock → State → CommandOutcome} {fieldsPass : Prop}
    (row : exec c s = .next (act s.params (s.accept code)).finish)
    (badStation : 32 ≤ s.params[0].toNat → act s.params (s.accept code) = .badField (s.accept code) 1)
    (named : fieldsPass → ∀ n, Names s n → ∃ f, act s.params (s.accept code) = withStation (s.accept code) n acceptsOnline f) :
    Refuses c online fieldsPass s := by
  refine ⟨fun big => ?bad, fun pass n names free => ?free, fun pass n r names hr off => ?off⟩
  case bad =>
    rw [row, badStation big]
    rfl
  case free =>
    obtain ⟨f, e⟩ := named pass n names
    rw [row, e, withStation_free (s.accept code) n _ _ free]
    rfl
  case off =>
    obtain ⟨f, e⟩ := named pass n names
    rw [row, e, withStation_refuses (s.accept code) n _ _ r hr (decide_eq_false (show ¬ r.life = .online from off))]
    rfl

/-! ### POST OUTBOUND -/

theorem postOutboundRow {s : State} (h : Ready s) :
    exec .postOutbound s = .next (postOutboundCommand s.params (s.accept 0x30)).finish :=
  congrArg Host.Outcome.next (Ready.issue h 0x30 postOutboundCommand)

theorem outbound_isEmpty_iff (o : Outbound) : o.isEmpty = true ↔ o = .empty := by
  cases o <;> simp [Outbound.isEmpty]

/-- Field 3 as the command tests it (R115). -/
theorem endField_iff (s : State) : (s.params[3] = 1 ∨ (s.params[3] = 0 ∧ lengthField s.params ≥ 1)) ↔
    (s.params[3].toNat = 1 ∨ (s.params[3].toNat = 0 ∧ 1 ≤ postedField s)) :=
  or_congr BitVec.toNat_eq (and_congr_left' BitVec.toNat_eq)

section
variable {s : State} {n : StationNo}

/-- The station field, then the length field (R115). -/
theorem postOutbound_badLength (names : Names s n) (long : 2048 < postedField s) (t : State) :
    postOutboundCommand s.params t = .badField t 2 := by
  rw [postOutboundCommand, stationField_val _ n names]
  exact if_pos long

/-- The end flag is tested behind the length (R115). -/
theorem postOutbound_badEnd (names : Names s n) (fits : postedField s ≤ 2048) (fails : ¬ postFieldsPass s) (t : State) :
    postOutboundCommand s.params t = .badField t 3 := by
  have flag := fun h => fails ⟨fits, (endField_iff s).mp h⟩
  rw [postOutboundCommand, stationField_val _ n names]
  exact (if_neg (Nat.not_lt_of_le fits)).trans (if_pos flag)

/-- With its fields passed the command goes on to the station, and there tests the role, the capacity and the outbound (R115). -/
theorem postOutbound_named (names : Names s n) (pass : postFieldsPass s) (t : State) :
    postOutboundCommand s.params t = withStation t n acceptsOnline fun r =>
      if !r.mayTalk then .badField t 1
      else if postedField s > regionCapacity r.outRegion then .badField t 2
      else if !r.outbound.isEmpty then .plain t .outboundBusy
      else .plain (t.updateRecord n fun r => { r with outbound := .posted (postedField s) (decide (s.params[3] = 1)) }) .ok := by
  obtain ⟨fits, flag⟩ := pass
  rw [postOutboundCommand, stationField_val _ n names]
  exact (if_neg (Nat.not_lt_of_le fits)).trans (if_neg (not_not_intro ((endField_iff s).mpr flag)))

end

/-- Settles O52: the fields are tested before the station, and the station's tests decide in their order. -/
theorem postOutbound : Obligations.PostOutbound := by
  refine ⟨fun s n r ready names pass ⟨hr, online⟩ => ?online, fun s n ready names long => ?badLength,
    fun s n ready names fits fails => ?badEnd, fun s ready => ?refused⟩
  case online =>
    have flag : decide (s.params[3] = 1) = decide (s.params[3].toNat = 1) := decide_eq_decide.mpr BitVec.toNat_eq
    rw [postOutboundRow ready, postOutbound_named names pass,
      withStation_accepts (s.accept 0x30) n _ _ r hr (decide_eq_true online), updateRecord_eq_setRecord (s := s.accept 0x30) hr, flag]
    simp only [Bool.not_eq_true', ← Bool.not_eq_true (Outbound.isEmpty _), outbound_isEmpty_iff]
    split
    · rfl
    · split
      · rfl
      · split <;> rfl
  case badLength =>
    rw [postOutboundRow ready, postOutbound_badLength names long]
    rfl
  case badEnd =>
    rw [postOutboundRow ready, postOutbound_badEnd names fits fails]
    rfl
  case refused =>
    refine refuses_online (postOutboundRow ready) (fun big => ?_) fun pass n names => ⟨_, postOutbound_named names pass _⟩
    rw [postOutboundCommand, stationField_none _ big]

/-! ### CANCEL OUTBOUND -/

theorem cancelOutboundRow {s : State} (h : Ready s) :
    exec .cancelOutbound s = .next (cancelOutboundCommand s.params (s.accept 0x31)).finish :=
  congrArg Host.Outcome.next (Ready.issue h 0x31 cancelOutboundCommand)

/-- Settles O53: the state of the outbound decides. -/
theorem cancelOutbound : Obligations.CancelOutbound := by
  refine ⟨fun s n r ready names ⟨hr, online⟩ => ?online, fun s ready => ?refused⟩
  case online =>
    have accepted := decide_eq_true online
    rw [cancelOutboundRow ready, cancelOutboundCommand, stationField_val _ n names]
    dsimp only
    rw [withStation_accepts (s.accept 0x31) n _ _ r hr accepted]
    cases r.outbound with
    | posted len e | sending len e c =>
      dsimp only
      rw [updateRecord_eq_setRecord (s := s.accept 0x31) hr]
      rfl
    | empty | closing len e c => rfl
  case refused =>
    refine refuses_online (cancelOutboundRow ready) (fun big => ?_) fun _ n names => ?_
    · rw [cancelOutboundCommand, stationField_none _ big]
    · rw [cancelOutboundCommand, stationField_val _ n names]
      exact ⟨_, rfl⟩

end Sys2Proof.Proofs

/-! ## POLL and the request commands as their rules state them -/

namespace Sys2Proof.Proofs

-- One theorem after the other: each thread of its own would take a stack.
set_option Elab.async false

open Sys2Proof Sys2Proof.Machine Sys2Proof.Claims

/-! ### POLL -/

theorem pollFrame_eq {ab : AddressBytes} {a : Address} (h : decodeAddress ab = some a) : pollFrame ab = some (.poll a) := by
  rw [pollFrame, h]

/-- A POLL in reception is taken at its end (R132). -/
theorem pollRow {s : State} {ab : AddressBytes} {a : Address} (h : InFrame s) (sound : decodeAddress ab = some a) :
    exec (.poll ab) s = .next (s.frameOver.takePoll a) := by
  obtain ⟨on, receiving⟩ := h
  rw [exec_of_rowFrame (c := .poll ab) (pollFrame_eq sound), s.frameEnds_taken _ on receiving]
  rfl

/-- The address law covers POLL addresses too: a POLL match is a ROUTE match (R49, R50). -/
theorem pollMatch_unique {s : State} (law : s.addressLaw) {a : Address} {n m : StationNo} {r q : StationRecord} (hn : Online s n r)
    (hm : Online s m q) (matchN : r.matchesPoll a = true) (matchM : q.matchesPoll a = true) : n = m := by
  obtain ⟨hr, onlineN⟩ := hn
  obtain ⟨hq, onlineM⟩ := hm
  obtain ⟨routeN, _⟩ := (matchesPoll_iff r a).mp matchN
  obtain ⟨routeM, _⟩ := (matchesPoll_iff q a).mp matchM
  exact law n m r q a hr hq onlineN onlineM routeN routeM

/-- A POLL resolves to the one ONLINE station it matches (R46, R50). -/
theorem resolve_poll {s : State} (law : s.addressLaw) {a : Address} {n : StationNo} {r : StationRecord} (online : Online s n r)
    (matched : r.matchesPoll a = true) : s.resolve (fun r => r.matchesPoll a) = some n := by
  refine (find?_stationNumbers fun m => s.onlineWith_iff m _).1 n ⟨r, online, matched⟩ fun j below ⟨q, other, matched'⟩ => ?_
  exact absurd (pollMatch_unique law other online matched' matched) (Fin.ne_of_lt below)

/-- A POLL that matches no ONLINE station resolves to none (R46). -/
theorem resolve_poll_none {s : State} {a : Address} (missed : ∀ n r, Online s n r → r.matchesPoll a = false) :
    s.resolve (fun r => r.matchesPoll a) = none := by
  refine (find?_stationNumbers fun m => s.onlineWith_iff m _).2 fun m ⟨r, online, matched⟩ => ?_
  exact absurd matched (Bool.eq_false_iff.mp (missed m r online))

section
variable {s : State} {a : Address} {n : StationNo} {r : StationRecord}

theorem takePoll_unmatched (unmatched : s.resolve (fun r => r.matchesPoll a) = none) : s.takePoll a = s := by
  rw [State.takePoll, unmatched]

/-- The address match of R53 on a record at hand. -/
theorem writeMatch_eq (hr : s.record n = some r) :
    s.writeMatch n a = s.setRecord n (some { r with lastMatched := some a }) :=
  updateRecord_eq_setRecord hr _

/-- What a POLL makes of an ASKING station's record (R53, R132). -/
theorem writeMatch_answered_polled (hr : s.record n = some r) :
    ((s.writeMatch n a).updateRecord n fun r => { r with request := .answered }).addNotice n .polled =
      { s.setRecord n (some { r with lastMatched := some a, request := .answered, notices := { r.notices with polled := true } }) with
        noticeList := joins s n r } := by
  rw [writeMatch_eq hr, updateRecord_eq_setRecord (State.record_setRecord_self ..), setRecord_setRecord,
    addNotice_eq (State.record_setRecord_self ..), setRecord_setRecord]
  rfl

/-- A POLL of an ASKING station (R132). -/
theorem takePoll_asking (resolved : s.resolve (fun r => r.matchesPoll a) = some n) (hr : s.record n = some r)
    (asking : r.request = .asking) : s.takePoll a =
      { s.setRecord n (some { r with lastMatched := some a, request := .answered, notices := { r.notices with polled := true } }) with
        noticeList := joins s n r
        replyWaiting := some (.status true r.status) } := by
  simp only [State.takePoll, resolved, hr, asking, writeMatch_answered_polled hr]

/-- A POLL of a QUIET or ANSWERED station (R132). -/
theorem takePoll_notAsking (resolved : s.resolve (fun r => r.matchesPoll a) = some n) (hr : s.record n = some r)
    (other : r.request ≠ .asking) : s.takePoll a =
      { s.setRecord n (some { r with lastMatched := some a }) with replyWaiting := some (.status false r.status) } := by
  simp only [State.takePoll, resolved, hr, writeMatch_eq hr]
  cases request : r.request with
  | asking => exact absurd request other
  | quiet | answered => rfl

end

/-- Settles O28: the address law makes the matched station the one the POLL resolves to, and its request state decides. -/
theorem pollAnswers : Obligations.PollAnswers := by
  refine ⟨fun s ab a n r inFrame law sound online matched => ?matched, fun s ab a inFrame sound missed => ?unmatched⟩
  case matched =>
    have resolved : s.frameOver.resolve (fun r => r.matchesPoll a) = some n := resolve_poll law online matched
    obtain ⟨hr, _⟩ := online
    rw [pollRow inFrame sound]
    split
    · next asking =>
      rw [takePoll_asking resolved hr asking]
      rfl
    · next other =>
      rw [takePoll_notAsking resolved hr other]
      rfl
  case unmatched =>
    rw [pollRow inFrame sound, takePoll_unmatched (s := s.frameOver) (resolve_poll_none missed)]
    rfl

/-! ### SET STATUS -/

theorem setStatusRow {s : State} (h : Ready s) :
    exec .setStatus s = .next (setStatusCommand s.params (s.accept 0x20)).finish :=
  congrArg Host.Outcome.next (Ready.issue h 0x20 setStatusCommand)

/-- The station field, then the status byte (R129). -/
theorem setStatus_badStatus {s : State} {n : StationNo} (names : Names s n) (big : 127 < s.params[1].toNat) (t : State) :
    setStatusCommand s.params t = .badField t 2 := by
  rw [setStatusCommand, stationField_val _ n names]
  exact if_pos big

/-- With its fields passed the command goes on to the station (R129). -/
theorem setStatus_named {s : State} {n : StationNo} (names : Names s n) (fits : s.params[1].toNat ≤ 127) (t : State) :
    setStatusCommand s.params t = withStation t n acceptsOnline fun _ =>
      .plain (t.updateRecord n fun r => { r with status := BitVec.ofNat 7 s.params[1].toNat }) .ok := by
  rw [setStatusCommand, stationField_val _ n names]
  exact if_neg (Nat.not_lt_of_le fits)

/-- Settles O48: the fields are tested before the station, and the change is one of the status byte alone. -/
theorem setStatus : Obligations.SetStatus := by
  refine ⟨fun s n r ready names ⟨hr, online⟩ fits => ?online, fun s n ready names big => ?badStatus, fun s ready => ?refused⟩
  case online =>
    rw [setStatusRow ready, setStatus_named names fits, withStation_accepts (s.accept 0x20) n _ _ r hr (decide_eq_true online),
      updateRecord_eq_setRecord (s := s.accept 0x20) hr]
    rfl
  case badStatus =>
    rw [setStatusRow ready, setStatus_badStatus names big]
    rfl
  case refused =>
    refine refuses_online (setStatusRow ready) (fun big => ?_) fun fits n names => ⟨_, setStatus_named names fits _⟩
    rw [setStatusCommand, stationField_none _ big]

/-! ### REQUEST SERVICE -/

theorem requestServiceRow {s : State} (h : Ready s) :
    exec .requestService s = .next (requestServiceCommand s.params (s.accept 0x21)).finish :=
  congrArg Host.Outcome.next (Ready.issue h 0x21 requestServiceCommand)

/-- The station field, then the status byte (R130). -/
theorem requestService_badStatus {s : State} {n : StationNo} (names : Names s n) (big : 127 < s.params[1].toNat) (t : State) :
    requestServiceCommand s.params t = .badField t 2 := by
  rw [requestServiceCommand, stationField_val _ n names]
  exact if_pos big

/-- With its fields passed the command goes on to the station, and there the request state decides (R130). -/
theorem requestService_named {s : State} {n : StationNo} (names : Names s n) (fits : s.params[1].toNat ≤ 127) (t : State) :
    requestServiceCommand s.params t = withStation t n acceptsOnline fun r =>
      if r.request = .answered then .plain t .requestUnwithdrawn
      else .plain (t.updateRecord n fun r => { r with request := .asking, status := BitVec.ofNat 7 s.params[1].toNat }) .ok := by
  rw [requestServiceCommand, stationField_val _ n names]
  refine (if_neg (Nat.not_lt_of_le fits)).trans (congrArg (withStation t n acceptsOnline) (funext fun r => ?_))
  cases r.request <;> rfl

/-- Settles O49: the fields are tested before the station, and its request state decides. -/
theorem requestService : Obligations.RequestService := by
  refine ⟨fun s n r ready names ⟨hr, online⟩ fits => ?online, fun s n ready names big => ?badStatus, fun s ready => ?refused⟩
  case online =>
    rw [requestServiceRow ready, requestService_named names fits,
      withStation_accepts (s.accept 0x21) n _ _ r hr (decide_eq_true online), updateRecord_eq_setRecord (s := s.accept 0x21) hr]
    split <;> rfl
  case badStatus =>
    rw [requestServiceRow ready, requestService_badStatus names big]
    rfl
  case refused =>
    refine refuses_online (requestServiceRow ready) (fun big => ?_) fun fits n names => ⟨_, requestService_named names fits _⟩
    rw [requestServiceCommand, stationField_none _ big]

/-! ### WITHDRAW REQUEST -/

theorem withdrawRequestRow {s : State} (h : Ready s) :
    exec .withdrawRequest s = .next (withdrawRequestCommand s.params (s.accept 0x22)).finish :=
  congrArg Host.Outcome.next (Ready.issue h 0x22 withdrawRequestCommand)

/-- With its field passed the command goes on to the station (R131). -/
theorem withdrawRequest_named {s : State} {n : StationNo} (names : Names s n) (t : State) :
    withdrawRequestCommand s.params t = withStation t n acceptsOnline fun r =>
      ⟨t.updateRecord n fun r => { r with request := .quiet }, .ok, 0, [(1, r.request.code)]⟩ := by
  rw [withdrawRequestCommand, stationField_val _ n names]

/-- Settles O50: the station's record loses its request, and byte 1 takes the code of the request found. -/
theorem withdrawRequest : Obligations.WithdrawRequest := by
  refine ⟨fun s n r ready names ⟨hr, online⟩ => ?online, fun s ready => ?refused⟩
  case online =>
    rw [withdrawRequestRow ready, withdrawRequest_named names,
      withStation_accepts (s.accept 0x22) n _ _ r hr (decide_eq_true online), updateRecord_eq_setRecord (s := s.accept 0x22) hr]
    cases r.request <;> rfl
  case refused =>
    refine refuses_online (withdrawRequestRow ready) (fun big => ?_) fun _ n names => ⟨_, withdrawRequest_named names _⟩
    rw [withdrawRequestCommand, stationField_none _ big]

end Sys2Proof.Proofs

/-! ## Group frames and mode frames as their rules state them -/

namespace Sys2Proof.Proofs

-- One theorem after the other: each thread of its own would take a stack.
set_option Elab.async false

open Sys2Proof Sys2Proof.Machine Sys2Proof.Claims

/-- With a frame in reception, the row of a controller frame that suits its kind is the frame taken at its end (R34). -/
theorem taken_of_rowFrame {c : Instr} {f : ControllerFrame} {s : State} (h : InFrame s) (row : rowFrame c = some f) :
    exec c s = .next (s.frameOver.takeFrame f) := by
  obtain ⟨on, receiving⟩ := h
  rw [exec_of_rowFrame row, s.frameEnds_taken _ on receiving]

/-! ### The stations a group frame reaches -/

/-- Under the law of the route a station is seated in one lane at most (R59). -/
theorem onlineListeners_nodup {s : State} (law : s.routeLaw) : s.onlineListeners.Nodup := by
  obtain ⟨onePlace, _, _⟩ := law
  have seated {i : LaneNo} {n : StationNo} (hi : n ∈ seatedIn (s.lane i)) : s.place (some i) = some ⟨n, false⟩ := by
    unfold seatedIn at hi
    split at hi
    · next m e => exact e.trans (by rw [Option.some.inj hi])
    · cases hi
  refine List.Nodup.filter _ (List.Nodup.filterMap (fun i j n hi hj => ?_) (by decide))
  exact Option.some.inj (onePlace _ _ _ _ (seated hi) (seated hj) rfl)

theorem online_of_mem_onlineListeners {s : State} {n : StationNo} (h : n ∈ s.onlineListeners) : ∃ r, Online s n r :=
  (s.isOnline_iff n).mp (List.mem_filter.mp h).2

theorem targets_nodup {s : State} (law : s.routeLaw) (scope : ClearScope) : (targets s scope).Nodup := by
  cases scope with
  | all => exact (List.nodup_finRange 32).filter _
  | listeners => exact onlineListeners_nodup law

theorem online_of_mem_targets {s : State} {scope : ClearScope} {n : StationNo} (h : n ∈ targets s scope) : ∃ r, Online s n r := by
  cases scope with
  | all => exact (s.isOnline_iff n).mp (List.mem_filter.mp h).2
  | listeners => exact online_of_mem_onlineListeners h

/-! ### A pass that holds some stations and settles the others at once -/

/-- From `s` to `t` a hold of kind `k` has been raised for each of the stations `held`, and each of the stations `now` has taken the effect
`g`, which ends in a notice, each in order (R77, R155). -/
structure Grouped (s t : State) (k : HoldKind) (g : StationRecord → StationRecord) (held now : List StationNo) : Prop where
  records : ∀ n, t.record n = (s.record n).map fun r => if n ∈ now then g r else r
  list : t.noticeList = s.noticeList ++ quietOnes s now
  holds : t.holds = s.holds ++ raised s (held.map fun n => (n, k))
  frame : t = { s with
    stations := t.stations, noticeList := t.noticeList, holds := t.holds
    holdTag := s.holdTag + BitVec.ofNat 8 held.length }

section
variable {s t : State} {k : HoldKind} {g : StationRecord → StationRecord} {held now : List StationNo}

theorem Grouped.refl (s : State) (k : HoldKind) (g : StationRecord → StationRecord) : Grouped s s k g [] [] where
  records n := by simp
  list := (List.append_nil _).symm
  holds := (List.append_nil _).symm
  frame := by simp

theorem Grouped.record_of_not_mem (h : Grouped s t k g held now) {n : StationNo} (new : n ∉ now) : t.record n = s.record n := by
  rw [h.records]
  simp [new]

theorem Grouped.raise (h : Grouped s t k g held now) (n : StationNo) : Grouped s (t.raiseHold n k) k g (held ++ [n]) now where
  records := h.records
  list := h.list
  holds := by
    have tag : t.holdTag = s.holdTag + BitVec.ofNat 8 held.length := by rw [h.frame]
    have limit : t.holdLimit = s.holdLimit := by rw [h.frame]
    have start : t.startTimer = timer s := by rw [startTimer_eq, timer, timer, limit]
    rw [State.raiseHold_holds, h.holds, tag, start, List.map_append, List.map_singleton, raised_concat, List.length_map, List.append_assoc]
  frame := by
    have next : s.holdTag + BitVec.ofNat 8 (held ++ [n]).length = s.holdTag + BitVec.ofNat 8 held.length + 1 := by
      rw [List.length_append, List.length_singleton, BitVec.ofNat_add, ← BitVec.add_assoc]
      rfl
    have frame := h.frame
    generalize t.stations = stations, t.noticeList = list, t.holds = holds at frame
    rw [frame, next]
    rfl

theorem Grouped.settle {f : StationNo → State → State} (h : Grouped s t k g held now) (reach : Reaches (fun _ => True) f fun _ => g)
    (noticed : ∀ r, (g r).notices ≠ NoticeSet.none) {n : StationNo} (new : n ∉ now) : Grouped s (f n t) k g held (now ++ [n]) where
  records m := by
    rw [reach.record n m t trivial]
    by_cases e : m = n
    · subst e
      simp [h.record_of_not_mem new]
    · simp [e, h.records]
  list := by
    have first : having t (wakes g) n = quiet s n := by
      rw [having_congr (h.record_of_not_mem new), quiet]
      exact congrArg (having s · n) (funext fun r => by simp [wakes, noticed])
    rw [reach.noticeList n t trivial, first, h.list, quietOnes_eq, quietOnes_eq, List.filter_append, List.filter_singleton]
    cases quiet s n <;> simp
  holds := by
    rw [reach.frame n t]
    exact h.holds
  frame := by
    have frame := h.frame
    have step := reach.frame n t
    generalize f n t = u at step
    rw [step, frame]

/-- A pass over ONLINE stations that raises a hold for those with an option and settles the others at once. -/
theorem grouped_pass {f target : StationNo → State → State} {option : StationRecord → Bool} (reach : Reaches (fun _ => True) f fun _ => g)
    (noticed : ∀ r, (g r).notices ≠ NoticeSet.none)
    (holdsOrSettles : ∀ n (t : State), target n t = if t.onlineWith n option then t.raiseHold n k else f n t) (ns : List StationNo)
    (nodup : ns.Nodup) (online : ∀ n ∈ ns, ∃ r, Online s n r) :
    Grouped s (s.forStations ns target) k g (ns.filter (having s option)) (ns.filter (having s fun r => !option r)) := by
  induction ns using List.reverseRecOn with
  | nil => exact .refl s k g
  | append_singleton ns n ih =>
    obtain ⟨before, _, apart⟩ := List.nodup_append.mp nodup
    have passed := ih before fun m hm => online m (List.mem_append_left _ hm)
    have new : n ∉ ns.filter (having s fun r => !option r) := fun hn =>
      apart n (List.mem_of_mem_filter hn) n (List.mem_singleton_self n) rfl
    obtain ⟨r, here⟩ := online n (by simp)
    have last : s.forStations (ns ++ [n]) target = target n (s.forStations ns target) := List.foldl_append
    have there : Online (s.forStations ns target) n r := ⟨(passed.record_of_not_mem new).trans here.1, here.2⟩
    rw [last, holdsOrSettles, ← having_of_online there, having_of_record there.1, List.filter_append, List.filter_append,
      List.filter_singleton, List.filter_singleton, having_of_record here.1, having_of_record here.1]
    cases option r with
    | true => simpa using passed.raise n
    | false => simpa using passed.settle reach noticed new

end

/-! ### CLEAR and TRIGGER -/

theorem clearTargets_eq (s : State) (scope : ClearScope) : s.clearTargets scope = targets s scope := by
  cases scope <;> rfl

/-- Settles O29: the pass over the targets raises a hold or clears, by the option of each. -/
theorem clearTaken : Obligations.ClearTaken := by
  intro s scope law inFrame
  have pass := grouped_pass (s := s.frameOver) (k := .clear scope) reaches_clearStation (fun r => NoticeSet.add_ne_none r.notices .cleared)
    (target := State.clearTarget scope) (option := fun r => r.options.onClear) (fun _ _ => rfl) (targets s scope) (targets_nodup law scope)
    fun n => online_of_mem_targets
  refine ⟨_, taken_of_rowFrame (c := .clear scope) inFrame rfl, ?_⟩
  rw [State.takeFrame, State.takeClear, clearTargets_eq]
  exact ⟨pass.records, pass.list, pass.holds, pass.frame⟩

/-- Settles O30: the pass over the ONLINE listeners raises a hold or gives TRIGGERED, by the option of each. -/
theorem triggerTaken : Obligations.TriggerTaken := by
  intro s law inFrame
  have pass := grouped_pass (s := s.frameOver) (k := .trigger) (reaches_addNotice .triggered)
    (fun r => NoticeSet.add_ne_none r.notices .triggered) (target := State.triggerTarget) (option := fun r => r.options.onTrigger)
    (fun _ _ => rfl) s.onlineListeners (onlineListeners_nodup law) fun n => online_of_mem_onlineListeners
  exact ⟨_, taken_of_rowFrame (c := .trigger) inFrame rfl, pass.records, pass.list, pass.holds, pass.frame⟩

end Sys2Proof.Proofs

/-! ## Mode frames and RETURN TO LOCAL as their rules state them -/

namespace Sys2Proof.Proofs

-- One theorem after the other: each thread of its own would take a stack.
set_option Elab.async false

open Sys2Proof Sys2Proof.Machine Sys2Proof.Claims

/-! ### A control mode moved by the link -/

/-- The mode of a record moves, with MODE_CHANGED, if the record passes a test (R137). -/
def movedIf (p : StationRecord → Bool) (f : ControlMode → ControlMode) (r : StationRecord) : StationRecord :=
  if p r then moved (f r.mode) r else r

/-- The link moves the control mode of a station whose record passes a test, with MODE_CHANGED (R137). -/
def moveMode (p : StationRecord → Bool) (f : ControlMode → ControlMode) (n : StationNo) (s : State) : State :=
  if having s p n then (s.updateRecord n fun r => { r with mode := f r.mode }).addNotice n .modeChanged else s

theorem reaches_moveMode (p : StationRecord → Bool) (f : ControlMode → ControlMode) :
    Reaches (fun _ => True) (moveMode p f) (fun _ => movedIf p f) :=
  ((reaches_updateRecord (g := fun r => { r with mode := f r.mode }) fun _ => rfl).comp (reaches_addNotice .modeChanged)).when
    fun _ _ _ _ hr => having_of_record hr p

theorem moveMode_of_free {s : State} {n : StationNo} (hr : s.record n = none) (p : StationRecord → Bool) (f : ControlMode → ControlMode) :
    moveMode p f n s = s := by
  rw [moveMode, having_of_free hr]
  rfl

/-- On a record that passes the test the mode becomes the one given for it, and any other record stays. -/
theorem moveMode_of_record {s : State} {n : StationNo} {r : StationRecord} (hr : s.record n = some r) (p : StationRecord → Bool)
    (f : ControlMode → ControlMode) : moveMode p f n s = if p r then s.changeMode n (f r.mode) else s := by
  rw [moveMode, having_of_record hr, State.changeMode, updateRecord_eq_setRecord hr, updateRecord_eq_setRecord hr]

/-- An ONLINE station that REMOTE OFF moves (R139). -/
def offMoves (r : StationRecord) : Bool := decide (r.life = .online ∧ r.mode ≠ .unlockedLocal)

/-- An ONLINE station that LOCKOUT moves (R140). -/
def lockMoves (r : StationRecord) : Bool := decide (r.life = .online ∧ (r.mode = .unlockedLocal ∨ r.mode = .unlockedRemote))

/-- The mode that LOCKOUT gives a station it moves (R140). -/
def lockedMode (m : ControlMode) : ControlMode := if m = .unlockedLocal then .lockedLocal else .lockedRemote

/-- A station that LOCAL moves (R141). -/
def localMoves (r : StationRecord) : Bool := decide (r.mode = .unlockedRemote ∨ r.mode = .lockedRemote)

/-- The mode that LOCAL gives a station it moves (R141). -/
def localMode (m : ControlMode) : ControlMode := if m = .unlockedRemote then .unlockedLocal else .lockedLocal

theorem remoteOff_eq : State.remoteOff = moveMode offMoves fun _ => .unlockedLocal := by
  funext n s
  unfold State.remoteOff State.onlineWith
  cases hr : s.record n with
  | none => rw [moveMode_of_free hr]; rfl
  | some r => rw [moveMode_of_record hr]; simp [offMoves]

theorem lockStation_eq : State.lockStation = moveMode lockMoves lockedMode := by
  funext n s
  unfold State.lockStation
  cases hr : s.record n with
  | none => rw [moveMode_of_free hr]
  | some r =>
    rw [moveMode_of_record hr]
    by_cases online : r.life = .online
    · cases hm : r.mode <;> simp [lockMoves, lockedMode, online, hm]
    · simp [lockMoves, online]

theorem localStation_eq : State.localStation = moveMode localMoves localMode := by
  funext n s
  unfold State.localStation
  cases hr : s.record n with
  | none => rw [moveMode_of_free hr]
  | some r =>
    rw [moveMode_of_record hr]
    cases hm : r.mode <;> simp [localMoves, localMode, hm]

/-- A pass of such moves changes nothing but the records moved, which get MODE_CHANGED, and the notice list (R155). -/
theorem moves_of_pass {c : Instr} {s : State} {target : StationNo → State → State} {p : StationRecord → Bool}
    {f : ControlMode → ControlMode} {ns : List StationNo} {enable lock : Bool} (nodup : ns.Nodup)
    (moves : target = moveMode p f)
    (row : exec c s = .next (State.forStations { s.frameOver with remoteEnable := enable, lockout := lock } ns target)) :
    Moves c s (ns.filter (having s p)) f enable lock := by
  subst moves
  have reach := reaches_moveMode p f
  refine ⟨_, row, fun n => ?records, ?list, reach.frame_pass ns _⟩
  case records =>
    rw [reach.record_pass ns nodup _ trivial]
    show (if n ∈ ns then (s.record n).map (movedIf p f) else s.record n) = _
    cases hr : s.record n with
    | none => simp
    | some r => by_cases reached : n ∈ ns <;> simp [movedIf, List.mem_filter, having_of_record hr, reached]
  case list =>
    have first : wakes (movedIf p f) = fun r => p r && decide (r.notices = NoticeSet.none) := funext fun r => by
      have noticed : (moved (f r.mode) r).notices ≠ NoticeSet.none := NoticeSet.add_ne_none r.notices .modeChanged
      cases hp : p r <;> simp [wakes, movedIf, hp, noticed]
    rw [reach.noticeList_pass ns nodup _ trivial, quietOnes_filter s ns fun _ => p, first]
    rfl

/-! ### The mode frames -/

/-- Settles O32: each frame is a change of the flags and a pass that moves the modes of the stations it reaches. -/
theorem modeFrames : Obligations.ModeFrames := by
  have all : (List.finRange 32).Nodup := List.nodup_finRange 32
  refine ⟨fun s inFrame => ?on, fun s inFrame => ?off, fun s inFrame disabled => ?ignored, fun s inFrame enabled => ?locked,
    fun s inFrame law => ?returned⟩
  case on => exact taken_of_rowFrame (c := .remote true) inFrame rfl
  case off =>
    have taken : s.frameOver.takeRemote false =
        State.forStations { s.frameOver with remoteEnable := false, lockout := false } stationNumbers State.remoteOff :=
      if_neg (by decide)
    exact moves_of_pass all remoteOff_eq ((taken_of_rowFrame (c := .remote false) inFrame rfl).trans (congrArg _ taken))
  case ignored =>
    have untaken : s.frameOver.takeLockout = s.frameOver := if_neg (by rw [State.frameOver_remoteEnable, disabled]; decide)
    exact (taken_of_rowFrame (c := .lockout) inFrame rfl).trans (congrArg _ untaken)
  case locked =>
    have taken : s.frameOver.takeLockout =
        State.forStations { s.frameOver with remoteEnable := true, lockout := true } stationNumbers State.lockStation := by
      rw [State.takeLockout, if_pos (show s.frameOver.remoteEnable = true from enabled), ← enabled]
      rfl
    exact moves_of_pass all lockStation_eq ((taken_of_rowFrame (c := .lockout) inFrame rfl).trans (congrArg _ taken))
  case returned =>
    exact moves_of_pass (onlineListeners_nodup law) localStation_eq (taken_of_rowFrame (c := .localFrame) inFrame rfl)

/-! ### RETURN TO LOCAL -/

theorem returnToLocalRow {s : State} (h : Ready s) :
    exec .returnToLocal s = .next (returnToLocalCommand s.params (s.accept 0x28)).finish :=
  congrArg Host.Outcome.next (Ready.issue h 0x28 returnToLocalCommand)

/-- Settles O51: the control mode of the station decides. -/
theorem returnToLocal : Obligations.ReturnToLocal := by
  refine ⟨fun s n r ready names ⟨hr, online⟩ => ?online, fun s ready => ?refused⟩
  case online =>
    rw [returnToLocalRow ready, returnToLocalCommand, stationField_val _ n names]
    dsimp only
    rw [withStation_accepts (s.accept 0x28) n _ _ r hr (decide_eq_true online), updateRecord_eq_setRecord (s := s.accept 0x28) hr]
    cases r.mode <;> rfl
  case refused =>
    refine refuses_online (returnToLocalRow ready) (fun big => ?_) fun _ n names => ?_
    · rw [returnToLocalCommand, stationField_none _ big]
    · rw [returnToLocalCommand, stationField_val _ n names]
      exact ⟨_, rfl⟩

end Sys2Proof.Proofs

/-! # The law of the control modes at every step (R138)

`State.modeLaw` holds of a state for its own sake: no other law is needed to keep it. A change of one record keeps it if the mode of that
record goes on to follow the flags (`State.modeLaw.reach`), and the few happenings that move the flags move the modes of all ONLINE stations
with them. -/

namespace Sys2Proof.Machine

-- One theorem after the other: each thread of its own would take a stack.
set_option Elab.async false

open Sys2Proof.Claims Sys2Proof.Proofs

/-! ## Changes that the law survives -/

section
variable {s t : State}

/-- The flags stay, and every record that stands after the change follows them if the one it comes from did. -/
theorem State.modeLaw.of_origin (h : s.modeLaw) (remote : t.remoteEnable = s.remoteEnable) (lock : t.lockout = s.lockout)
    (origin : ∀ n q, t.record n = some q → ∃ r, s.record n = some r ∧
      (r.modeFits s.remoteEnable s.lockout → q.modeFits s.remoteEnable s.lockout)) : t.modeLaw := by
  refine ⟨by rw [remote, lock]; exact h.1, fun n q hq => ?_⟩
  obtain ⟨r, hr, fits⟩ := origin n q hq
  rw [remote, lock]
  exact fits (h.2 n r hr)

/-- A change of what is neither a record nor a flag. -/
theorem State.modeLaw.of_frame (h : s.modeLaw) (stations : t.stations = s.stations) (remote : t.remoteEnable = s.remoteEnable)
    (lock : t.lockout = s.lockout) : t.modeLaw :=
  h.of_origin remote lock fun n q hq => ⟨q, State.record_congr stations n ▸ hq, id⟩

theorem State.Retouches.modeLaw (g : s.Retouches t) (h : s.modeLaw) : t.modeLaw :=
  h.of_origin g.remoteEnable g.lockout fun _ _ hq =>
    let ⟨r, hr, keeps⟩ := g.origin hq
    ⟨r, hr, keeps.modes⟩

/-- A change of the record of one station. -/
theorem State.modeLaw.reach {P : State → Prop} {f : StationNo → State → State} {g : StationNo → StationRecord → StationRecord}
    (h : s.modeLaw) (reach : Reaches P f g) (hs : P s) (n : StationNo)
    (fits : ∀ r, r.modeFits s.remoteEnable s.lockout → (g n r).modeFits s.remoteEnable s.lockout) : (f n s).modeLaw := by
  refine h.of_origin (by rw [reach.frame n s]) (by rw [reach.frame n s]) fun m q hq => ?_
  rw [reach.record n m s hs] at hq
  split at hq
  · next e =>
    obtain ⟨r, hr, rfl⟩ := Option.map_eq_some_iff.mp hq
    exact ⟨r, e ▸ hr, fits r⟩
  · exact ⟨q, hq, id⟩

theorem State.modeLaw.updateRecord (h : s.modeLaw) (n : StationNo) {g : StationRecord → StationRecord}
    (notices : ∀ r, (g r).notices = r.notices)
    (fits : ∀ r, r.modeFits s.remoteEnable s.lockout → (g r).modeFits s.remoteEnable s.lockout) : (s.updateRecord n g).modeLaw :=
  h.reach (reaches_updateRecord notices) trivial n fits

theorem State.modeLaw.addNotice (h : s.modeLaw) (n : StationNo) (k : NoticeKind) : (s.addNotice n k).modeLaw :=
  h.reach (reaches_addNotice k) trivial n fun _ => id

theorem State.modeLaw_ite {c : Prop} [Decidable c] (hs : s.modeLaw) (ht : t.modeLaw) : (if c then s else t).modeLaw := by
  split
  · exact hs
  · exact ht

theorem State.modeLaw.forStations {f : StationNo → State → State} (h : s.modeLaw) (keeps : ∀ n (t : State), t.modeLaw → (f n t).modeLaw)
    (ns : List StationNo) : (s.forStations ns f).modeLaw :=
  State.forStations_invariant State.modeLaw f keeps ns s h

theorem State.modeLaw.foldl {α : Type} {f : State → α → State} (h : s.modeLaw) (keeps : ∀ a (t : State), t.modeLaw → (f t a).modeLaw)
    (as : List α) : (as.foldl f s).modeLaw :=
  List.foldlRecOn (motive := State.modeLaw) as f h fun t ht a _ => keeps a t ht

/-! ## Retirement, places and holds -/

/-- A station no longer ONLINE is under no flag. -/
theorem State.modeLaw.becomeRetired (h : s.modeLaw) (n : StationNo) : (s.becomeRetired n).modeLaw :=
  h.reach reaches_becomeRetired trivial n fun _ _ => nofun

theorem State.modeLaw.reportRelease (n : StationNo) (h : s.modeLaw) : (State.reportRelease n s).modeLaw :=
  State.modeLaw_ite (h.becomeRetired n) h

theorem State.modeLaw.raiseHold (h : s.modeLaw) (n : StationNo) (k : HoldKind) : (s.raiseHold n k).modeLaw := h.of_frame rfl rfl rfl

theorem State.modeLaw.removeHold (h : s.modeLaw) (n : StationNo) : (s.removeHold n).modeLaw := h.of_frame rfl rfl rfl

theorem State.modeLaw.holdLeft (h : s.modeLaw) (k : Hold) : (s.holdLeft k).modeLaw :=
  (State.modeLaw_ite (s := s.discardPrivateCopy) (State.modeLaw_ite h (h.of_frame rfl rfl rfl)) h).reportRelease k.station

/-- The remote transition moves a mode only while remote is enabled, and keeps its lockout mark (R66). -/
theorem StationRecord.modeFits_transition (s : State) (r : StationRecord) (h : r.modeFits s.remoteEnable s.lockout) :
    (transition s r).modeFits s.remoteEnable s.lockout := by
  unfold transition
  split
  · next moves =>
    intro online
    obtain ⟨_, unlocked, locked⟩ := h online
    rw [moves.1]
    refine ⟨nofun, fun _ off => ?_, fun on => ?_⟩
    · rcases unlocked moves.1 off with e | e <;> exact .inr (by rw [e]; rfl)
    · rcases locked on with e | e <;> exact .inr (by rw [e]; rfl)
  · exact h

theorem State.modeLaw.remoteTransition (h : s.modeLaw) (n : StationNo) : (s.remoteTransition n).modeLaw :=
  h.reach (reaches_remoteTransition s) rfl n (StationRecord.modeFits_transition s)

theorem State.modeLaw.writeMatch (h : s.modeLaw) (n : StationNo) (a : Address) : (s.writeMatch n a).modeLaw :=
  h.updateRecord n (fun _ => rfl) fun _ => id

theorem State.modeLaw.seatTalker (h : s.modeLaw) (a : Address) : (s.seatTalker a).state.modeLaw := by
  unfold State.seatTalker
  split
  · exact h
  · split
    · exact h
    · next n _ =>
      have wrote := h.writeMatch n a
      dsimp only
      split
      · exact wrote.addNotice n .seatDenied
      · split <;> exact wrote.of_frame rfl rfl rfl

theorem State.modeLaw.seatListener {p : RoutePass} (h : p.state.modeLaw) (a : Address) : (p.seatListener a).state.modeLaw := by
  unfold RoutePass.seatListener
  dsimp only
  split
  · exact h
  · next n _ =>
    have wrote := h.writeMatch n a
    have denied := wrote.addNotice n .seatDenied
    split
    · exact wrote
    · split
      · exact denied
      · split
        · exact State.modeLaw_ite denied (denied.of_frame rfl rfl rfl)
        · split <;> exact wrote.of_frame rfl rfl rfl

theorem State.modeLaw.seatListeners {p : RoutePass} (h : p.state.modeLaw) (as : List Address) :
    (as.foldl RoutePass.seatListener p).state.modeLaw :=
  List.foldlRecOn (motive := fun p : RoutePass => p.state.modeLaw) as RoutePass.seatListener h fun _ hp a _ => hp.seatListener a

theorem State.modeLaw.raisePortHold (h : s.modeLaw) (e : StationNo × Address) : (s.raisePortHold e).modeLaw := by
  unfold State.raisePortHold
  split
  · exact h
  · exact h.raiseHold _ _

theorem State.modeLaw.clearRoute (h : s.modeLaw) : s.emptyRoute.clearAcceptedPorts.modeLaw :=
  (State.clearAcceptedPorts_retouches _).modeLaw (h.of_frame rfl rfl rfl)

theorem State.modeLaw.takeRoute (h : s.modeLaw) (talker : Address) (listeners : List Address) : (s.takeRoute talker listeners).modeLaw := by
  have seated := (h.clearRoute.seatTalker talker).seatListeners listeners
  unfold State.takeRoute
  dsimp only
  generalize listeners.foldl RoutePass.seatListener (s.emptyRoute.clearAcceptedPorts.seatTalker talker) = p at seated
  have transited := seated.foldl (fun n _ ht => ht.remoteTransition n) p.state.listeners
  have held := transited.foldl (fun e _ ht => ht.raisePortHold e) p.tentative
  exact held.forStations (fun n _ ht => ht.reportRelease n) _

theorem State.modeLaw.acceptPort (h : s.modeLaw) (n : StationNo) (q : LinkPort) : (s.acceptPort n q).modeLaw := by
  have settled : (s.settle n).modeLaw := h.of_frame rfl rfl rfl
  have ported := settled.updateRecord n (g := fun r => { r with acceptedPort := some q }) (fun _ => rfl) fun _ => id
  rw [acceptPort_eq]
  exact State.modeLaw_ite (ported.remoteTransition n) ported

theorem State.modeLaw.clearStation (h : s.modeLaw) (n : StationNo) : (s.clearStation n).modeLaw :=
  (s.clearStation_retouches n).modeLaw h

theorem State.modeLaw.applyVerdict (h : s.modeLaw) (k : Hold) (accept : Bool) : (s.applyVerdict k accept).modeLaw := by
  unfold State.applyVerdict
  split
  · exact State.modeLaw_ite (h.acceptPort _ _) (h.of_frame rfl rfl rfl)
  · exact State.modeLaw_ite (h.clearStation _) h
  · exact State.modeLaw_ite (h.addNotice _ _) h
  · exact h
  · exact h

theorem State.modeLaw.answerWith (h : s.modeLaw) (k : Hold) (accept : Bool) : (s.answerWith k accept).modeLaw :=
  ((h.removeHold _).applyVerdict k accept).holdLeft k

theorem State.modeLaw.expireHold (h : s.modeLaw) (k : Hold) : (s.expireHold k).modeLaw :=
  (((h.removeHold _).addNotice _ _).applyVerdict k _).holdLeft k

theorem State.modeLaw.expireHolds (h : s.modeLaw) : s.expireHolds.modeLaw :=
  h.foldl (fun k _ ht => ht.expireHold k) _

theorem State.modeLaw.takePrivate (h : s.modeLaw) (code : BitVec 6) (body : List Byte) : (s.takePrivate code body).modeLaw := by
  rw [takePrivate_eq]
  exact State.modeLaw_ite h (h.of_frame rfl rfl rfl)

/-! ## Transfers -/

theorem State.modeLaw.setInbound (h : s.modeLaw) (n : StationNo) (i : Inbound) :
    (s.updateRecord n fun r => { r with inbound := i }).modeLaw :=
  h.updateRecord n (g := fun r => { r with inbound := i }) (fun _ => rfl) fun _ => id

theorem State.modeLaw.storeFrame (h : s.modeLaw) (n : StationNo) (body : List Byte) (endMark : Bool) :
    (s.storeFrame n body endMark).modeLaw := by
  unfold State.storeFrame
  split
  · exact h
  · have stored (i : Inbound) (m : Memory) : State.modeLaw { s.updateRecord n (fun r => { r with inbound := i }) with memory := m } :=
      (h.setInbound n i).of_frame rfl rfl rfl
    exact State.modeLaw_ite ((stored _ _).addNotice n _) (stored _ _)

theorem State.modeLaw.closeUnfinished (h : s.modeLaw) (n : StationNo) : (s.closeUnfinished n).modeLaw := by
  unfold State.closeUnfinished
  split
  · exact h
  · split
    · exact h
    · exact (h.setInbound n _).addNotice n _

theorem State.modeLaw.offer {p : DataPass} (h : p.state.modeLaw) (body : List Byte) (endMark : Bool) (n : StationNo) :
    (p.offer body endMark n).state.modeLaw := by
  unfold DataPass.offer
  split
  · exact h
  · split
    · exact h
    · split
      · exact h.storeFrame n body endMark
      · exact h.closeUnfinished n

theorem State.modeLaw.takeData (h : s.modeLaw) (endMark : Bool) (body : List Byte) : (s.takeData endMark body).modeLaw := by
  have offered : (s.listeners.foldl (DataPass.offer body endMark) ⟨s, [], []⟩).state.modeLaw :=
    List.foldlRecOn (motive := fun p : DataPass => p.state.modeLaw) s.listeners _ h fun _ hp n _ => hp.offer body endMark n
  unfold State.takeData
  dsimp only
  rw [raiseAll_eq]
  exact State.modeLaw_ite (offered.of_frame rfl rfl rfl) (offered.of_frame rfl rfl rfl)

theorem State.modeLaw.deliverStaged (h : s.modeLaw) (n : StationNo) (g : Stage) : (s.deliverStaged n g).modeLaw := by
  obtain ⟨_, e⟩ := s.deliverStaged_eq n g
  have left : (s.leaveOwed n).modeLaw := by
    rw [State.leaveOwed_frame]
    exact h.of_frame rfl rfl rfl
  have stored := left.storeFrame n g.body g.endMark
  rw [e]
  exact (State.modeLaw_ite (stored.raiseHold n _) stored).reportRelease n

theorem State.modeLaw.expireStage (h : s.modeLaw) : s.expireStage.modeLaw := by
  unfold State.expireStage
  split
  · exact h
  · next g _ =>
    have lost : State.modeLaw { s.forStations g.owed (fun n t => t.addNotice n .dataLost) with stage := none } :=
      (h.forStations (fun n _ ht => ht.addNotice n .dataLost) g.owed).of_frame rfl rfl rfl
    exact State.modeLaw_ite (lost.forStations (fun n _ ht => ht.reportRelease n) g.owed) h

/-! ## Frames -/

/-- LOCAL moves a mode under remote control to the local one of its kind (R141). -/
theorem StationRecord.modeFits_local {remote lock : Bool} (r : StationRecord) (h : r.modeFits remote lock) :
    (movedIf localMoves localMode r).modeFits remote lock := by
  unfold movedIf
  split
  · next moves =>
    intro online
    have live : r.life ≠ .retired := by rw [show r.life = .online from online]; decide
    rcases of_decide_eq_true moves with e | e
    · exact (r.keeps_toLocal live (.inl ⟨e, by rw [e]; rfl⟩)).modes h online
    · exact (r.keeps_toLocal live (.inr ⟨e, by rw [e]; rfl⟩)).modes h online
  · exact h

theorem State.modeLaw.localStation (h : s.modeLaw) (n : StationNo) : (State.localStation n s).modeLaw := by
  rw [localStation_eq]
  exact h.reach (reaches_moveMode localMoves localMode) trivial n StationRecord.modeFits_local

/-- A pass over all stations after which every record follows the flags, which it leaves alone. -/
theorem State.modeLaw_of_pass {f : StationNo → State → State} {g : StationNo → StationRecord → StationRecord}
    (reach : Reaches (fun _ => True) f g) (flags : s.lockout = true → s.remoteEnable = true)
    (fits : ∀ n r, (g n r).modeFits s.remoteEnable s.lockout) : (s.forStations stationNumbers f).modeLaw := by
  have frame := reach.frame_pass stationNumbers s
  have record := reach.record_all s trivial
  generalize s.forStations stationNumbers f = t at frame record
  have remote : t.remoteEnable = s.remoteEnable := by rw [frame]
  have lock : t.lockout = s.lockout := by rw [frame]
  refine ⟨by rw [remote, lock]; exact flags, fun n q hq => ?_⟩
  rw [record] at hq
  obtain ⟨r, _, rfl⟩ := Option.map_eq_some_iff.mp hq
  rw [remote, lock]
  exact fits n r

/-- REMOTE ON moves no mode; REMOTE OFF makes every ONLINE station LOCAL (R139). -/
theorem State.modeLaw.takeRemote (h : s.modeLaw) (on : Bool) : (s.takeRemote on).modeLaw := by
  obtain ⟨flags, modes⟩ := h
  unfold State.takeRemote
  split
  · refine ⟨fun _ => rfl, fun n r hr online => ?_⟩
    obtain ⟨disabled, unlocked, locked⟩ := modes n r hr online
    refine ⟨nofun, fun _ off => ?_, locked⟩
    cases enabled : s.remoteEnable with
    | false => exact .inl (disabled enabled)
    | true => exact unlocked enabled off
  · rw [remoteOff_eq]
    refine State.modeLaw_of_pass (reaches_moveMode offMoves fun _ => .unlockedLocal) nofun fun n r => ?_
    unfold movedIf
    split
    · exact fun _ => ⟨fun _ => rfl, nofun, nofun⟩
    · next stays => exact fun online => ⟨fun _ => Classical.not_not.mp fun e => stays (decide_eq_true ⟨online, e⟩), nofun, nofun⟩

/-- While remote is enabled LOCKOUT locks every ONLINE station (R140). -/
theorem State.modeLaw.takeLockout (h : s.modeLaw) : s.takeLockout.modeLaw := by
  unfold State.takeLockout
  split
  · next enabled =>
    rw [lockStation_eq]
    refine State.modeLaw_of_pass (reaches_moveMode lockMoves lockedMode) (fun _ => enabled) fun n r => ?_
    suffices locked : (movedIf lockMoves lockedMode r).life = .online →
        (movedIf lockMoves lockedMode r).mode = .lockedLocal ∨ (movedIf lockMoves lockedMode r).mode = .lockedRemote from
      fun online => ⟨fun off => absurd (enabled.symm.trans off) nofun, nofun, fun _ => locked online⟩
    unfold movedIf
    split
    · intro _
      show lockedMode r.mode = .lockedLocal ∨ lockedMode r.mode = .lockedRemote
      unfold lockedMode
      split
      · exact .inl rfl
      · exact .inr rfl
    · next stays =>
      intro online
      have unmoved : ¬ (r.mode = .unlockedLocal ∨ r.mode = .unlockedRemote) := fun e => stays (decide_eq_true ⟨online, e⟩)
      cases hm : r.mode <;> simp [hm] at unmoved ⊢
  · exact h

theorem State.modeLaw.resetTransfers (h : s.modeLaw) : s.resetTransfers.modeLaw := by
  have released : s.released.modeLaw := by
    have emptied := h.clearRoute
    unfold State.released
    generalize s.emptyRoute.clearAcceptedPorts = t at emptied
    exact emptied.of_frame rfl rfl rfl
  exact (released.forStations (fun n t => (s.resetStation_retouches n t).modeLaw) _).forStations (fun n _ ht => ht.reportRelease n) _

theorem State.modeLaw.takeFrame (h : s.modeLaw) (f : ControllerFrame) : (s.takeFrame f).modeLaw := by
  cases f with
  | route talker listeners => exact h.takeRoute talker listeners
  | data endMark body => exact h.takeData endMark body
  | fetch => exact s.takeFetch_retouches.modeLaw h
  | poll a => exact (s.takePoll_retouches a).modeLaw h
  | clear scope => exact h.forStations (fun n _ ht => State.modeLaw_ite (ht.raiseHold n _) (ht.clearStation n)) _
  | trigger => exact h.forStations (fun n _ ht => State.modeLaw_ite (ht.raiseHold n _) (ht.addNotice n _)) _
  | remote on => exact h.takeRemote on
  | lockout => exact h.takeLockout
  | localFrame => exact h.forStations (fun n _ ht => ht.localStation n) _
  | resetLink =>
    have seen : s.linkResetSeen.modeLaw := h.of_frame rfl rfl rfl
    exact seen.resetTransfers
  | privateFrame code body => exact h.takePrivate code body

end

end Sys2Proof.Machine

/-! # Commands, rows and steps keep the law of the control modes -/

namespace Sys2Proof.Machine

-- One theorem after the other: each thread of its own would take a stack.
set_option Elab.async false

open Sys2Proof.Claims Sys2Proof.Proofs

section
variable {s : State}

/-! ## Commands -/

/-- A new station is LOCAL, with the lockout mark the flags ask for (R14, R138). -/
theorem State.modeLaw.defineStation (h : s.modeLaw) (p : ParamBlock) : (defineStationCommand p s).state.modeLaw := by
  rcases defineStation_cases p s with e | ⟨n, _, _, e⟩
  · rw [e]; exact h
  · rw [e]
    refine ⟨h.1, fun m q hq => ?_⟩
    rcases record_define s.lockout hq with ⟨_, rfl⟩ | ⟨_, hq⟩
    · exact newRecord_modeFits _ h.1
    · exact h.2 m q hq

theorem State.modeLaw.quietStation (h : s.modeLaw) (n : StationNo) : (s.quietStation n).modeLaw :=
  (s.quietStation_retouches n).modeLaw h

theorem State.modeLaw.retireGraceful (h : s.modeLaw) (n : StationNo) : (retireGraceful s n).state.modeLaw := by
  have quiet := h.quietStation n
  unfold Machine.retireGraceful
  dsimp only
  split
  · exact quiet.updateRecord n (g := fun r => { r with life := .retiring }) (fun _ => rfl) fun _ _ => nofun
  · exact quiet.becomeRetired n

theorem State.modeLaw.retireImmediate (h : s.modeLaw) (n : StationNo) (r : StationRecord) : (retireImmediate s n r).state.modeLaw := by
  have cut {t : State} (ht : t.modeLaw) : (t.cutStation n).modeLaw := by
    rw [State.cutStation_eq]
    exact ht.of_frame rfl rfl rfl
  exact (cut (State.modeLaw_ite (h.quietStation n) h)).becomeRetired n

theorem State.modeLaw.retireStation (h : s.modeLaw) (p : ParamBlock) : (retireStationCommand p s).state.modeLaw := by
  unfold retireStationCommand
  split
  · exact h
  · next n _ =>
    split
    · exact withStation_cases (fun o => o.state.modeLaw) h h fun _ _ _ => h.retireGraceful n
    · split
      · exact withStation_cases (fun o => o.state.modeLaw) h h fun r _ _ => h.retireImmediate n r
      · exact h

/-- A record taken is FREE or keeps its mode (R157, R158). -/
theorem State.modeLaw.takeNotice (h : s.modeLaw) (p : ParamBlock) : (takeNoticeCommand p s).state.modeLaw := by
  obtain ⟨_, wires, _⟩ := takeNotice_sameBlocks p s
  simp only [State.wires, Prod.mk.injEq] at wires
  obtain ⟨_, _, remote, lock⟩ := wires
  rcases takeNotice_cases p s with e | ⟨n, rest, takes⟩
  · rw [e]; exact h
  · refine h.of_origin remote lock fun m q hq => ?_
    rw [takes.records] at hq
    split at hq
    · next e =>
      obtain ⟨r, hr, taken⟩ := Option.bind_eq_some_iff.mp hq
      unfold takenRecord at taken
      split at taken
      · cases taken
      · exact ⟨r, e ▸ hr, Option.some.inj taken ▸ id⟩
    · exact ⟨q, hq, id⟩

theorem State.modeLaw.releaseInbound (h : s.modeLaw) (p : ParamBlock) : (releaseInboundCommand p s).state.modeLaw := by
  unfold releaseInboundCommand
  split
  · exact h
  · next n _ =>
    refine withStation_cases (fun o => o.state.modeLaw) h h fun r _ _ => ?_
    have emptied := h.setInbound n .empty
    split
    · dsimp only
      split
      · exact emptied
      · split
        · exact emptied.deliverStaged n _
        · exact emptied
    · exact h

theorem State.modeLaw.answerHold (h : s.modeLaw) (p : ParamBlock) : (answerHoldCommand p s).state.modeLaw := by
  unfold answerHoldCommand
  split
  · exact h
  · split
    · exact h
    · refine withStation_cases (fun o => o.state.modeLaw) h h fun _ _ _ => ?_
      split
      · exact h
      · split
        · exact h.answerWith _ _
        · exact h

/-- DETACH clears both flags and makes every ONLINE station LOCAL (R42). -/
theorem State.modeLaw.detach (h : s.modeLaw) (p : ParamBlock) : (detachCommand p s).state.modeLaw := by
  unfold detachCommand
  have record := reaches_detachMode.record_all s.resetTransfers trivial
  generalize s.resetTransfers.forStations stationNumbers State.detachMode = t at record
  split
  · refine ⟨nofun, fun n q hq online => ⟨fun _ => ?_, nofun, nofun⟩⟩
    obtain ⟨r, _, rfl⟩ := Option.map_eq_some_iff.mp ((record n).symm.trans hq)
    unfold StationRecord.detach at online ⊢
    split
    · rfl
    · next off => exact absurd (by rwa [if_neg off] at online) off
  · exact h

theorem State.modeLaw.attach (h : s.modeLaw) (p : ParamBlock) : (attachCommand p s).state.modeLaw := by
  unfold attachCommand
  split
  · exact h
  · exact h.of_frame rfl rfl rfl

/-- The action of every command code keeps the law. -/
theorem State.modeLaw.commandAction (h : s.modeLaw) (code : Byte) (p : ParamBlock) : (commandAction code p s).state.modeLaw := by
  have touched {o : CommandOutcome} (touches : s.Touches o.state) : o.state.modeLaw := touches.toRetouches.modeLaw h
  exact commandAction_cases (fun _ act => (act p s).state.modeLaw) (attach := h.attach p) (detach := h.detach p)
    (define := h.defineStation p) (adjust := touched (adjustStationCommand_touches p s))
    (readStation := touched (readStationCommand_touches p s)) (retire := h.retireStation p)
    (setStatus := touched (setStatusCommand_touches p s)) (request := touched (requestServiceCommand_touches p s))
    (withdraw := touched (withdrawRequestCommand_touches p s)) (toLocal := touched (returnToLocalCommand_touches p s))
    (post := touched (postOutboundCommand_touches p s)) (cancel := touched (cancelOutboundCommand_touches p s))
    (release := h.releaseInbound p) (take := h.takeNotice p) (readHold := touched (readHoldCommand_touches p s))
    (answer := h.answerHold p) (readRoute := h) (limit := h.of_frame rfl rfl rfl)
    (force := touched (forceTriggerCommand_touches p s)) (unknown := fun _ => h) code

theorem State.modeLaw.completes (h : s.modeLaw) (code : Byte) (p : ParamBlock) : (Machine.commandAction code p s).finish.modeLaw :=
  (h.commandAction code p).of_frame rfl rfl rfl

theorem State.modeLaw.commandOverrun (h : s.modeLaw) : s.commandOverrun.modeLaw := h.of_frame rfl rfl rfl

theorem State.modeLaw.accept (h : s.modeLaw) (code : Byte) : (s.accept code).modeLaw := h.of_frame rfl rfl rfl

theorem State.modeLaw.issue (h : s.modeLaw) (code : Byte) : (s.issue code (Machine.commandAction code)).modeLaw :=
  State.issue_cases State.modeLaw s code _ (fun _ => h) (fun _ _ => h.commandOverrun) (fun p _ _ => h.completes code p)
    fun _ _ => (h.accept code).completes code s.params

theorem State.modeLaw.issueRetire (h : s.modeLaw) (mode : Byte) : (s.issueRetire mode retireStationCommand).modeLaw := by
  refine State.issueRetire_cases State.modeLaw s mode _ (fun _ => h) (fun _ _ => h.commandOverrun) (fun p _ _ => h.completes 0x13 p)
    fun _ _ => ?_
  have accepted : (({ s with params := s.params.set 1 mode } : State).accept 0x13).modeLaw := h.of_frame rfl rfl rfl
  exact accepted.completes 0x13 _

theorem State.modeLaw.commandCompletion {t : State} (h : s.modeLaw) (e : execCommandCompletion s = .next t) : t.modeLaw := by
  obtain rfl := Host.Outcome.next.inj e
  split
  · exact h.completes _ _
  · exact h
  · exact h

/-! ## Rows of the link -/

theorem State.modeLaw.frameOver (h : s.modeLaw) : s.frameOver.modeLaw := h.of_frame rfl rfl rfl

theorem State.modeLaw.startBit (h : s.modeLaw) : s.startBit.modeLaw := h.of_frame rfl rfl rfl

theorem State.modeLaw.linkFault (h : s.modeLaw) (k : FaultKind) : (s.linkFault k).modeLaw :=
  State.modeLaw_ite h (h.of_frame rfl rfl rfl)

theorem State.modeLaw.damagedRun (h : s.modeLaw) : s.damagedRun.modeLaw := h.frameOver.linkFault _

theorem State.modeLaw.judge (h : s.modeLaw) (f : Option ControllerFrame) : (s.judge f).modeLaw := by
  cases f with
  | none => exact h.frameOver.linkFault _
  | some f => exact State.modeLaw_ite (h.frameOver.linkFault _) (h.frameOver.takeFrame f)

theorem State.modeLaw.atRunEnd (h : s.modeLaw) {f : State → State} (keeps : ∀ t : State, t.modeLaw → (f t).modeLaw) :
    (s.atRunEnd f).modeLaw :=
  s.atRunEnd_cases f State.modeLaw h (keeps s h) (keeps _ h.startBit)

theorem State.modeLaw.frameEnds (h : s.modeLaw) (f : Option ControllerFrame) : (s.frameEnds f).modeLaw := h.atRunEnd fun _ ht => ht.judge f

theorem State.modeLaw.judgeBytes (h : s.modeLaw) (type : Byte) (body : List Byte) (check : Byte) :
    (s.judgeBytes type body check).modeLaw :=
  State.modeLaw_ite h.damagedRun <| State.modeLaw_ite (h.frameOver.linkFault _) <| State.modeLaw_ite h.frameOver (h.judge _)

theorem State.modeLaw.runEnds (h : s.modeLaw) (run : LinkRun) : (s.runEnds run).modeLaw := by
  cases run with
  | afterIdle chars =>
    refine h.atRunEnd fun t ht => ?_
    split
    · exact ht.damagedRun
    · have judged := ht.judgeBytes
      exact State.modeLaw_ite (judged _ _ _) (judged _ _ _).startBit.damagedRun
  | afterCheck chars => exact h.atRunEnd fun _ ht => ht.damagedRun

theorem State.modeLaw.frameStart {t : State} (h : s.modeLaw) (e : execFrameStart s = .next t) : t.modeLaw := by
  obtain rfl := Host.Outcome.next.inj e
  split
  · split
    · exact h
    · exact h.startBit
    · exact h.damagedRun.startBit
  · exact h

theorem State.modeLaw.idleGap {t : State} (h : s.modeLaw) (e : execIdleGap s = .next t) : t.modeLaw := by
  obtain rfl := Host.Outcome.next.inj e
  split
  · split
    · exact h.frameOver
    · exact h
    · exact h.damagedRun
  · exact h

theorem State.modeLaw.sendReply {t : State} (h : s.modeLaw) (e : execSendReply s = .next t) : t.modeLaw := by
  obtain rfl := Host.Outcome.next.inj e
  split
  · exact h.of_frame rfl rfl rfl
  · exact h

/-! ## Rows of the host port -/

theorem State.modeLaw.readAccess (h : s.modeLaw) (reg : BitVec 4) {f : State → State} (hf : (f s).modeLaw) :
    (s.readAccess reg f).modeLaw :=
  State.modeLaw_ite (h.of_frame rfl rfl rfl) (hf.of_frame rfl rfl rfl)

theorem State.modeLaw.access (h : s.modeLaw) {f : State → State} (hf : (f s).modeLaw) : (s.access f).modeLaw := State.modeLaw_ite h hf

theorem State.modeLaw.writeParamIndex (h : s.modeLaw) (v : Byte) : (s.writeParamIndex v).modeLaw :=
  State.modeLaw_ite h.commandOverrun (h.of_frame rfl rfl rfl)

theorem State.modeLaw.writeParamData (h : s.modeLaw) (v : Byte) : (s.writeParamData v).modeLaw :=
  State.modeLaw_ite h.commandOverrun (h.of_frame rfl rfl rfl)

theorem State.modeLaw.passDataRead (h : s.modeLaw) : s.passDataRead.modeLaw := by
  have refused : (s.accessRefused s.dataPointer).modeLaw := State.modeLaw_ite h (h.of_frame rfl rfl rfl)
  exact State.modeLaw_ite (refused.of_frame rfl rfl rfl) (h.of_frame rfl rfl rfl)

theorem State.modeLaw.writeData (h : s.modeLaw) (v : Byte) : (s.writeData v).modeLaw := by
  have refused : (s.accessRefused s.dataPointer).modeLaw := State.modeLaw_ite h (h.of_frame rfl rfl rfl)
  exact State.modeLaw_ite (refused.of_frame rfl rfl rfl) (h.of_frame rfl rfl rfl)

theorem State.modeLaw.writeRegister (h : s.modeLaw) (reg : BitVec 4) (v : Byte) : (s.writeRegister reg v).modeLaw := by
  unfold State.writeRegister
  split
  · exact State.modeLaw_ite h.commandOverrun (h.accept v)
  · exact h.writeParamIndex v
  · exact h.writeParamData v
  · exact h.of_frame rfl rfl rfl
  · exact h.of_frame rfl rfl rfl
  · exact h.writeData v
  · exact h.of_frame rfl rfl rfl
  · exact h.of_frame rfl rfl rfl
  · exact h

/-- After a hardware reset both flags are clear and no station is there (R1, R138). -/
theorem State.modeLaw_hardwareReset (s : State) (powerOn : Bool) : (s.hardwareReset powerOn).modeLaw := by
  refine ⟨nofun, fun n r hr => ?_⟩
  rw [State.record_congr (s := State.reset) (by rfl)] at hr
  simp [State.record, State.reset, Vector.get] at hr

end

/-! ## Every row and every step -/

theorem exec_keeps_modeLaw (c : Instr) (s t : State) (h : s.modeLaw) (e : exec c s = .next t) : t.modeLaw := by
  cases c with
  | hardwareReset p => exact Host.Outcome.next.inj e ▸ s.modeLaw_hardwareReset p
  | commandCompletion => exact h.commandCompletion e
  | attach => exact Host.Outcome.next.inj e ▸ h.issue 0x01
  | detach => exact Host.Outcome.next.inj e ▸ h.issue 0x02
  | defineStation => exact Host.Outcome.next.inj e ▸ h.issue 0x10
  | adjustStation => exact Host.Outcome.next.inj e ▸ h.issue 0x11
  | readStation => exact Host.Outcome.next.inj e ▸ h.issue 0x12
  | retireStationGraceful => exact Host.Outcome.next.inj e ▸ h.issueRetire 0
  | retireStationImmediate => exact Host.Outcome.next.inj e ▸ h.issueRetire 1
  | setStatus => exact Host.Outcome.next.inj e ▸ h.issue 0x20
  | requestService => exact Host.Outcome.next.inj e ▸ h.issue 0x21
  | withdrawRequest => exact Host.Outcome.next.inj e ▸ h.issue 0x22
  | returnToLocal => exact Host.Outcome.next.inj e ▸ h.issue 0x28
  | postOutbound => exact Host.Outcome.next.inj e ▸ h.issue 0x30
  | cancelOutbound => exact Host.Outcome.next.inj e ▸ h.issue 0x31
  | releaseInbound => exact Host.Outcome.next.inj e ▸ h.issue 0x38
  | takeNotice => exact Host.Outcome.next.inj e ▸ h.issue 0x40
  | readHold => exact Host.Outcome.next.inj e ▸ h.issue 0x48
  | answerHold => exact Host.Outcome.next.inj e ▸ h.issue 0x49
  | readRoute => exact Host.Outcome.next.inj e ▸ h.issue 0x50
  | setHoldLimit => exact Host.Outcome.next.inj e ▸ h.issue 0x58
  | forceTrigger => exact Host.Outcome.next.inj e ▸ h.issue 0x60
  | unknownCommand code => exact Host.Outcome.next.inj e ▸ h.issue code
  | route | data | fetch | poll | clear | trigger | remote | lockout | localFrame | resetLink | privateFrame =>
    exact Host.Outcome.next.inj e ▸ h.frameEnds _
  | responderFrame isStatus body =>
    exact Host.Outcome.next.inj e ▸ h.atRunEnd fun _ ht => State.modeLaw_ite ht.frameOver ht.damagedRun
  | frameDiscarded run => exact Host.Outcome.next.inj e ▸ h.runEnds run
  | frameStart => exact h.frameStart e
  | idleGap => exact h.idleGap e
  | sendReply => exact h.sendReply e
  | replySent => exact Host.Outcome.next.inj e ▸ h.of_frame rfl rfl rfl
  | holdExpiry => exact Host.Outcome.next.inj e ▸ h.expireHolds
  | stageExpiry => exact Host.Outcome.next.inj e ▸ h.expireStage
  | millisecondStep => exact Host.Outcome.next.inj e ▸ h.expireHolds.expireStage.of_frame rfl rfl rfl
  | readResult => exact Host.Outcome.next.inj e ▸ h.readAccess 0x1 (State.modeLaw_ite (h.of_frame rfl rfl rfl) h)
  | paramDataRead => exact Host.Outcome.next.inj e ▸ h.readAccess 0x3 (h.of_frame rfl rfl rfl)
  | dataRead => exact Host.Outcome.next.inj e ▸ h.readAccess 0x6 h.passDataRead
  | paramIndexWrite v => exact Host.Outcome.next.inj e ▸ h.access (h.writeParamIndex v)
  | paramDataWrite v => exact Host.Outcome.next.inj e ▸ h.access (h.writeParamData v)
  | dataWrite v => exact Host.Outcome.next.inj e ▸ h.access (h.writeData v)
  | irqEnableWrite v => exact Host.Outcome.next.inj e ▸ h.access (h.of_frame rfl rfl rfl)
  | deviceNoticeWrite v => exact Host.Outcome.next.inj e ▸ h.access (h.of_frame rfl rfl rfl)
  | registerWrite reg v => exact Host.Outcome.next.inj e ▸ h.access (h.writeRegister reg v)
  | nrstRelease => exact Host.Outcome.next.inj e ▸ h.of_frame rfl rfl rfl

/-- Settles O8: each row keeps the law, for whatever state meets it. -/
theorem stepKeepsModes : Obligations.StepKeepsModes :=
  step_keeps State.modeLaw (fun _ _ => id) exec_keeps_modeLaw

end Sys2Proof.Machine

/-! # Notices, interrupts and the register window

The law of the notice list at every step (R155), the accesses of the register window (R161 to R173), and TAKE NOTICE (R157, R158). -/

/-! ## The law of the notice list at every step (R155) -/

namespace Sys2Proof.Machine

-- One theorem after the other: each thread of its own would take a stack.
set_option Elab.async false

open Sys2Proof.Claims

theorem CommandOutcome.finish_noticeListLaw {o : CommandOutcome} (law : o.state.noticeListLaw) : o.finish.noticeListLaw :=
  State.noticeListLaw_congr rfl rfl law

/-- The new record stands outside the list, with its empty set (R14). -/
theorem State.noticeListLaw_defineStation {s : State} (law : s.noticeListLaw) (p : ParamBlock) :
    (defineStationCommand p s).state.noticeListLaw := by
  rcases defineStation_cases p s with unchanged | ⟨n, _, admits, defined⟩
  · rw [unchanged]; exact law
  · rw [defined]; exact State.noticeListLaw_define law admits.free _ _

/-- A station that becomes RETIRED joins the list with its notice RETIRED (R23). -/
theorem State.noticeListLaw_retireStation {s : State} (law : s.noticeListLaw) (p : ParamBlock) :
    (retireStationCommand p s).state.noticeListLaw := by
  rcases retireStation_cases p s with unchanged | ⟨n, r, q, retires⟩
  · rw [unchanged]; exact law
  · exact retires.noticeList law

/-- The head leaves the list together with its set (R157). -/
theorem State.noticeListLaw_takeNotice {s : State} (law : s.noticeListLaw) (p : ParamBlock) :
    (takeNoticeCommand p s).state.noticeListLaw := by
  rcases takeNotice_cases p s with unchanged | ⟨n, rest, takes⟩
  · rw [unchanged]; exact law
  · exact takes.noticeListLaw law

/-- The three commands that take records into or out of the table, or out of ONLINE. -/
theorem State.Completes.noticeListLaw {s t : State} {c : Instr} (h : s.Completes c t) (law : s.noticeListLaw) : t.noticeListLaw := by
  obtain ⟨code, p, u, change, -, stations, list, -, rfl⟩ := h
  have law : u.noticeListLaw := State.noticeListLaw_congr stations list law
  rcases change with rfl | rfl | rfl
  · exact CommandOutcome.finish_noticeListLaw (State.noticeListLaw_defineStation law p)
  · exact CommandOutcome.finish_noticeListLaw (State.noticeListLaw_retireStation law p)
  · exact CommandOutcome.finish_noticeListLaw (State.noticeListLaw_takeNotice law p)

/-- After a hardware reset no station is there and the list is empty (R1). -/
theorem State.noticeListLaw_hardwareReset (s : State) (powerOn : Bool) : (s.hardwareReset powerOn).noticeListLaw :=
  State.noticeListLaw_congr (s := State.reset) rfl rfl resetMeetsTheLaws.noticeList

theorem exec_keeps_noticeListLaw (c : Instr) (s t : State) (law : s.noticeListLaw) (e : exec c s = .next t) : t.noticeListLaw := by
  by_cases reset : ∃ p, c = .hardwareReset p
  · obtain ⟨p, rfl⟩ := reset
    exact Host.Outcome.next.inj e ▸ s.noticeListLaw_hardwareReset p
  · rcases exec_cases c s t e (fun p hp => reset ⟨p, hp⟩) with evolves | completes
    · exact evolves.noticeList law
    · exact completes.noticeListLaw law

/-- Settles O5: the records evolve with the list, unless DEFINE STATION, RETIRE STATION or TAKE NOTICE completes, and each of these moves the
list with the record it changes. -/
theorem stepKeepsNoticeList : Obligations.StepKeepsNoticeList :=
  step_keeps State.noticeListLaw (fun _ _ => id) exec_keeps_noticeListLaw

end Sys2Proof.Machine

/-! ## The accesses of the register window as their rules state them -/

namespace Sys2Proof.Proofs

-- One theorem after the other: each thread of its own would take a stack.
set_option Elab.async false

open Sys2Proof Sys2Proof.Machine Sys2Proof.Claims

/-! ### Accesses while NRST is high -/

theorem access_released {s : State} (nrst : s.nrstLow = false) (f : State → State) : s.access f = f s :=
  if_neg (by rw [nrst]; exact nofun)

theorem readAccess_released {s : State} (nrst : s.nrstLow = false) (reg : BitVec 4) (f : State → State) :
    s.readAccess reg f = { f s with readData := some (s.registerValue reg) } :=
  if_neg (by rw [nrst]; exact nofun)

/-- The row of a write in the register window is the register's own write. -/
theorem exec_registerWrite {s : State} (nrst : s.nrstLow = false) (reg : BitVec 4) (v : Byte) :
    exec (.registerWrite reg v) s = .next (s.writeRegister reg v) :=
  congrArg Host.Outcome.next (access_released nrst _)

/-- The registers that the window table marks ignored for a write (R166). -/
theorem writeRegister_ignored {reg : BitVec 4} (h : reg ∈ [(0x1 : BitVec 4), 0x8, 0x9, 0xB, 0xC, 0xD, 0xE, 0xF]) (s : State) (v : Byte) :
    s.writeRegister reg v = s := by
  simp only [List.mem_cons, List.not_mem_nil, or_false] at h
  rcases h with rfl | rfl | rfl | rfl | rfl | rfl | rfl | rfl <;> rfl

/-! ### The values written and read -/

/-- DATA_PTR_LO replaces the low byte of the pointer (R173). -/
theorem pointerLow_eq (p : BitVec 13) (v : Byte) :
    (p >>> 8 <<< 8) ||| v.setWidth 13 = BitVec.ofNat 13 (p.toNat / 256 * 256 + v.toNat) := by
  have bound := p.isLt
  have high : (p >>> 8 <<< 8).toNat = (p.toNat / 256) <<< 8 := by
    rw [BitVec.toNat_shiftLeft, BitVec.toNat_ushiftRight, Nat.shiftRight_eq_div_pow, Nat.shiftLeft_eq]
    omega
  have low : (v.setWidth 13).toNat = v.toNat := by
    rw [BitVec.toNat_setWidth]
    omega
  refine BitVec.eq_of_toNat_eq ?_
  rw [BitVec.toNat_or, high, low, ← Nat.shiftLeft_add_eq_or_of_lt v.isLt, Nat.shiftLeft_eq, BitVec.toNat_ofNat]
  omega

/-- DATA_PTR_HI replaces the rest of the pointer from bits 4 to 0 (R173). -/
theorem pointerHigh_eq (p : BitVec 13) (v : Byte) :
    (p &&& (0xFF : BitVec 13)) ||| (v.setWidth 13 <<< 8) = BitVec.ofNat 13 (v.toNat % 32 * 256 + p.toNat % 256) := by
  have bound := v.isLt
  have low : (p &&& (0xFF : BitVec 13)).toNat = p.toNat % 256 := by
    rw [BitVec.toNat_and]
    exact Nat.and_two_pow_sub_one_eq_mod p.toNat 8
  have high : (v.setWidth 13 <<< 8).toNat = (v.toNat % 32) <<< 8 := by
    rw [BitVec.toNat_shiftLeft, BitVec.toNat_setWidth, Nat.shiftLeft_eq, Nat.shiftLeft_eq]
    omega
  refine BitVec.eq_of_toNat_eq ?_
  rw [BitVec.toNat_or, low, high, Nat.or_comm, ← Nat.shiftLeft_add_eq_or_of_lt (by omega), Nat.shiftLeft_eq, BitVec.toNat_ofNat]
  omega

/-- The code of RESULT is its number in the table of R169. -/
theorem resultByte_eq (r : ResultCode) : r.byte = BitVec.ofNat 8 (resultNumber r) := by
  rw [← resultByte_toNat, BitVec.ofNat_toNat, BitVec.setWidth_eq]

/-- The index takes the low five bits of a byte (R171). -/
theorem index_lowBits (v : Byte) : Fin.ofNat 32 v.toNat = Fin.ofNat 32 (v.toNat % 32) := Fin.ext (Nat.mod_mod _ _).symm

/-- The index advances from 31 to 0 (R171). -/
theorem index_advance (i : Fin 32) : i + 1 = Fin.ofNat 32 (i.val + 1) := Fin.ext (Fin.val_add i 1)

/-- The enables are the low four bits of a byte (R162). -/
theorem enables_lowBits (v : Byte) : v.setWidth 4 = BitVec.ofNat 4 (v.toNat % 16) := by
  refine BitVec.eq_of_toNat_eq ?_
  rw [BitVec.toNat_setWidth, BitVec.toNat_ofNat, Nat.mod_mod]

/-- A read of RESULT leaves the engine IDLE if it was DONE (R169). -/
theorem idleAfterDone_eq (s : State) : (if s.engine = .done then { s with engine := .idle } else s) =
    { s with engine := if s.engine = .done then .idle else s.engine } := by
  split <;> rfl

theorem writeParamIndex_free {s : State} (free : s.busyEngine = false) (v : Byte) :
    s.writeParamIndex v = { s with paramIndex := Fin.ofNat 32 v.toNat } :=
  if_neg (by rw [free]; exact nofun)

theorem writeParamData_free {s : State} (free : s.busyEngine = false) (v : Byte) :
    s.writeParamData v = { s with params := s.params.set s.paramIndex v, paramIndex := s.paramIndex + 1 } :=
  if_neg (by rw [free]; exact nofun)

/-- Settles O21: each access by the register's own write or read, and the value it writes or reads by the lemma of its rule. -/
theorem registerAccesses : Obligations.RegisterAccesses := by
  refine ⟨fun s v nrst => ?pointerLow, fun s v nrst => ?pointerHigh, fun s v reg nrst ignored => ?ignored, fun s nrst => ?readResult,
    fun s v ready => ?writeIndex, fun s v ready => ?writeData, fun s nrst => ?readData, fun s v nrst => ?enables, fun s v nrst => ?clear⟩
  case pointerLow =>
    rw [exec_registerWrite nrst, ← pointerLow_eq]
    rfl
  case pointerHigh =>
    rw [exec_registerWrite nrst, ← pointerHigh_eq]
    rfl
  case ignored => rw [exec_registerWrite nrst, writeRegister_ignored ignored]
  case readResult =>
    refine congrArg Host.Outcome.next ?_
    rw [readAccess_released nrst, idleAfterDone_eq, ← resultByte_eq]
    rfl
  case writeIndex =>
    refine congrArg Host.Outcome.next ?_
    rw [access_released ready.1, writeParamIndex_free (Ready.free ready), index_lowBits]
  case writeData =>
    refine congrArg Host.Outcome.next ?_
    rw [access_released ready.1, writeParamData_free (Ready.free ready), index_advance]
  case readData =>
    refine congrArg Host.Outcome.next ?_
    rw [readAccess_released nrst, ← index_advance]
    rfl
  case enables =>
    refine congrArg Host.Outcome.next ?_
    rw [access_released nrst, ← enables_lowBits]
    rfl
  case clear => exact congrArg Host.Outcome.next (access_released nrst _)

end Sys2Proof.Proofs

/-! ## TAKE NOTICE as its rules state it -/

namespace Sys2Proof.Proofs

-- One theorem after the other: each thread of its own would take a stack.
set_option Elab.async false

open Sys2Proof Sys2Proof.Machine Sys2Proof.Claims

/-! ### The bytes of a notice set -/

/-- A flag placed at a bit of a byte is that bit, and every other bit is 0. -/
theorem getElem_bitAt (b : Bool) (i j : Nat) (h : j < 8) : (bitAt b i)[j] = (b && decide (i = j)) := by
  cases b with
  | false => simp [bitAt]
  | true =>
    rw [bitAt, if_pos rfl, BitVec.getElem_shiftLeft, Bool.eq_iff_iff]
    simp only [BitVec.ofNat_eq_ofNat, BitVec.getElem_one, Bool.and_eq_true, Bool.not_eq_true', decide_eq_true_eq, decide_eq_false_iff_not,
      true_and]
    omega

/-- Each kind of notice has its own bit of the two bytes (R172). -/
theorem noticeBits (ns : NoticeSet) : ns.lowByte[0] = ns.inboundComplete ∧ ns.lowByte[1] = ns.outboundDone ∧ ns.lowByte[2] = ns.dataLost ∧
    ns.lowByte[3] = ns.polled ∧ ns.lowByte[4] = ns.modeChanged ∧ ns.lowByte[5] = ns.cleared ∧ ns.lowByte[6] = ns.triggered ∧
    ns.lowByte[7] = ns.seatDenied ∧ ns.highByte[0] = ns.holdExpired ∧ ns.highByte[1] = ns.holdWithdrawn ∧ ns.highByte[2] = ns.retired := by
  simp [NoticeSet.lowByte, NoticeSet.highByte, getElem_bitAt]

/-- The low byte holds eight of the eleven kinds, the high byte the other three. -/
theorem noticeNumber_lt (ns : NoticeSet) : noticeNumber ns < 2048 := by
  have flag (b : Bool) : b.toNat ≤ 1 := Bool.toNat_le b
  unfold noticeNumber
  linarith [flag ns.inboundComplete, flag ns.outboundDone, flag ns.dataLost, flag ns.polled, flag ns.modeChanged, flag ns.cleared,
    flag ns.triggered, flag ns.seatDenied, flag ns.holdExpired, flag ns.holdWithdrawn, flag ns.retired]

/-- The two bytes are the low and the high byte of the set's number. -/
theorem noticeBytes_eq (ns : NoticeSet) :
    ns.lowByte = BitVec.ofNat 8 (noticeNumber ns % 256) ∧ ns.highByte = BitVec.ofNat 8 (noticeNumber ns / 256) := by
  have number := noticeBytes_toNat ns
  have low := ns.lowByte.isLt
  have high := ns.highByte.isLt
  constructor
  · refine BitVec.eq_of_toNat_eq ?_
    rw [BitVec.toNat_ofNat]
    omega
  · refine BitVec.eq_of_toNat_eq ?_
    rw [BitVec.toNat_ofNat]
    omega

/-! ### The command -/

theorem takeNoticeRow {s : State} (h : Ready s) : exec .takeNotice s = .next (takeNoticeCommand s.params (s.accept 0x40)).finish :=
  congrArg Host.Outcome.next (Ready.issue h 0x40 takeNoticeCommand)

theorem takeNoticeCommand_empty {s : State} (empty : s.noticeList = []) (p : ParamBlock) :
    takeNoticeCommand p s = ⟨s, .empty, 0, [(0, 255), (1, 0), (2, 0), (3, 0)]⟩ := by
  rw [takeNoticeCommand, empty]

theorem takeNoticeCommand_head {s : State} {n : StationNo} {rest : List StationNo} {r : StationRecord} (head : s.noticeList = n :: rest)
    (hr : s.record n = some r) (p : ParamBlock) : takeNoticeCommand p s =
      ⟨{ s.setRecord n (takenRecord r) with noticeList := rest }, .ok, 0,
        [(0, stationByte n), (1, r.notices.lowByte), (2, r.notices.highByte), (3, BitVec.ofNat 8 rest.length)]⟩ := by
  rw [takeNoticeCommand, head]
  dsimp only
  rw [hr]

/-- Settles O55: the list alone decides, and the bytes of the set are the two bytes of its number, with a bit for each kind. -/
theorem takeNotice : Obligations.TakeNotice := by
  refine ⟨fun s n rest r ready head hr => ?head, fun s ready empty => ?empty, fun ns => ?bytes⟩
  case head =>
    obtain ⟨low, high⟩ := noticeBytes_eq r.notices
    rw [takeNoticeRow ready, takeNoticeCommand_head (s := s.accept 0x40) head hr, low, high]
    rfl
  case empty =>
    rw [takeNoticeRow ready, takeNoticeCommand_empty (s := s.accept 0x40) empty]
    rfl
  case bytes =>
    have small : ns.highByte.toNat < 8 := by
      have number := noticeBytes_toNat ns
      have bound := noticeNumber_lt ns
      omega
    obtain ⟨b0, b1, b2, b3, b4, b5, b6, b7, h0, h1, h2⟩ := noticeBits ns
    exact ⟨b0, b1, b2, b3, b4, b5, b6, b7, h0, h1, h2, small⟩

end Sys2Proof.Proofs

/-! # The host port and the buffer memory

What the blocks behind the link and the command engine leave alone: the register window, the device notice flags, the queue of commands and
the bytes of buffer memory that the host owns. -/

/-! ## What the operations of the station blocks leave alone -/

namespace Sys2Proof.Machine

-- One theorem after the other: each thread of its own would take a stack.
set_option Elab.async false

/-- What stands in the register window and on the host's pins, apart from the engine, RESULT and the parameter block. -/
def State.window (s : State) : Fin 32 × BitVec 13 × BitVec 4 × Option Byte × Bool :=
  (s.paramIndex, s.dataPointer, s.irqEnable, s.readData, s.nrstLow)

/-- The device notice flags with their details (R160). -/
def State.deviceFlags (s : State) : DeviceNotices × Option FaultKind × StationNo × BitVec 13 :=
  (s.device, s.faultKind, s.deniedStation, s.refusedAddress)

/-- The queue of commands, and what the bytes read from buffer memory follow. -/
def State.backing (s : State) : List Instr × Memory × Nat := (s.pending, s.memory, s.powerOns)

/-- All that the operations of the station blocks leave alone, but for a store, a denial for want of a lane and a RESET LINK frame. -/
def State.aside (s : State) : (Fin 32 × BitVec 13 × BitVec 4 × Option Byte × Bool) ×
    (DeviceNotices × Option FaultKind × StationNo × BitVec 13) × (List Instr × Memory × Nat) :=
  (s.window, s.deviceFlags, s.backing)

/-- What a store leaves alone as well: all of this but the memory. -/
def State.hostSide (s : State) : (Fin 32 × BitVec 13 × BitVec 4 × Option Byte × Bool) ×
    (DeviceNotices × Option FaultKind × StationNo × BitVec 13) × (List Instr × Nat) :=
  (s.window, s.deviceFlags, s.pending, s.powerOns)

theorem backing_of_aside {s t : State} (h : t.aside = s.aside) : t.backing = s.backing := congrArg (·.2.2) h

theorem hostSide_of_aside {s t : State} (h : t.aside = s.aside) : t.hostSide = s.hostSide :=
  congrArg (fun x => (x.1, x.2.1, x.2.2.1, x.2.2.2.2)) h

/-- What every single change leaves alone, a pass over a list leaves alone. -/
theorem foldl_keeps {σ α β : Type} (g : σ → β) {f : σ → α → σ} (h : ∀ s a, g (f s a) = g s) (as : List α) (s : σ) :
    g (as.foldl f s) = g s :=
  List.foldlRecOn (motive := fun t => g t = g s) as f rfl fun t ht a _ => (h t a).trans ht

/-- What neither branch of a test changes, the test leaves alone. -/
theorem ite_keeps {σ β : Type} (g : σ → β) {c : Prop} [Decidable c] {s t : σ} {b : β} (hs : g s = b) (ht : g t = b) :
    g (if c then s else t) = b := by
  split <;> assumption

theorem State.aside_forStations {f : StationNo → State → State} (h : ∀ n t, (f n t).aside = t.aside) (ns : List StationNo) (s : State) :
    (s.forStations ns f).aside = s.aside :=
  State.forStations_keeps State.aside f h ns s

theorem State.aside_updateRecord (s : State) (n : StationNo) (f : StationRecord → StationRecord) :
    (s.updateRecord n f).aside = s.aside := rfl

theorem State.aside_changeNotices (s : State) (n : StationNo) (f : NoticeSet → NoticeSet) : (s.changeNotices n f).aside = s.aside := by
  rw [State.changeNotices_frame]; rfl

theorem State.aside_addNotice (s : State) (n : StationNo) (k : NoticeKind) : (s.addNotice n k).aside = s.aside :=
  s.aside_changeNotices n _

theorem State.aside_becomeRetired (s : State) (n : StationNo) : (s.becomeRetired n).aside = s.aside := State.aside_changeNotices _ n _

theorem State.aside_reportRelease (n : StationNo) (s : State) : (State.reportRelease n s).aside = s.aside :=
  ite_keeps State.aside (s.aside_becomeRetired n) rfl

theorem State.aside_clearStation (s : State) (n : StationNo) : (s.clearStation n).aside = s.aside := State.aside_addNotice _ n _

theorem State.aside_clearAcceptedPorts (s : State) : s.clearAcceptedPorts.aside = s.aside :=
  State.aside_forStations (f := State.clearAcceptedPort) (fun n t => t.aside_updateRecord n _) _ s

theorem State.aside_remoteTransition (s : State) (n : StationNo) : (s.remoteTransition n).aside = s.aside := by
  rw [State.remoteTransition_frame]; rfl

theorem State.aside_discardPrivateCopy (s : State) : s.discardPrivateCopy.aside = s.aside := ite_keeps State.aside rfl rfl

theorem State.aside_leaveOwed (s : State) (n : StationNo) : (s.leaveOwed n).aside = s.aside := by
  rw [State.leaveOwed_frame]; rfl

theorem State.aside_cutStation (s : State) (n : StationNo) : (s.cutStation n).aside = s.aside := by
  rw [State.cutStation_eq]; rfl

/-- A pass that reaches the record of each station and the notice list alone. -/
theorem State.aside_pass {P : State → Prop} {f : StationNo → State → State} {g : StationNo → StationRecord → StationRecord}
    (reach : Proofs.Reaches P f g) (ns : List StationNo) (s : State) : (s.forStations ns f).aside = s.aside :=
  State.aside_forStations (fun n t => by rw [reach.frame n t]; rfl) ns s

/-! ### Holds -/

theorem State.aside_applyVerdict (s : State) (h : Hold) (accept : Bool) : (s.applyVerdict h accept).aside = s.aside := by
  rw [State.applyVerdict_frame]; rfl

theorem State.aside_holdLeft (s : State) (h : Hold) : (s.holdLeft h).aside = s.aside :=
  (State.aside_reportRelease h.station _).trans (ite_keeps State.aside s.aside_discardPrivateCopy rfl)

theorem State.aside_answerWith (s : State) (h : Hold) (accept : Bool) : (s.answerWith h accept).aside = s.aside :=
  (State.aside_holdLeft _ h).trans (State.aside_applyVerdict _ h accept)

theorem State.aside_expireHold (s : State) (h : Hold) : (s.expireHold h).aside = s.aside :=
  (State.aside_holdLeft _ h).trans <| (State.aside_applyVerdict _ h _).trans (State.aside_addNotice _ _ _)

theorem State.aside_expireHolds (s : State) : s.expireHolds.aside = s.aside := foldl_keeps State.aside State.aside_expireHold _ s

theorem State.aside_expireStage (s : State) : s.expireStage.aside = s.aside := by
  unfold State.expireStage
  split
  · rfl
  · next g _ =>
    have lost : (s.forStations g.owed fun n t => t.addNotice n .dataLost).aside = s.aside :=
      State.aside_forStations (fun n t => t.aside_addNotice n _) _ s
    exact ite_keeps State.aside ((State.aside_forStations State.aside_reportRelease _ _).trans lost) rfl

/-! ### Frames -/

theorem State.aside_takePrivate (s : State) (code : BitVec 6) (body : List Byte) : (s.takePrivate code body).aside = s.aside := by
  rw [Proofs.takePrivate_eq]
  exact ite_keeps State.aside rfl rfl

theorem State.aside_takeFetch (s : State) : s.takeFetch.aside = s.aside := by
  have done (n : StationNo) : (s.outboundDone n).aside = s.aside := State.aside_addNotice _ n _
  have chunk (n : StationNo) (r : StationRecord) (len : Nat) (e : Bool) (c : Nat) : (s.sendChunk n r len e c).aside = s.aside :=
    ite_keeps State.aside (done n) rfl
  unfold State.takeFetch
  split
  · rfl
  · split
    · rfl
    · split
      · rfl
      · exact chunk _ _ _ _ _
      · exact chunk _ _ _ _ _
      · exact done _

theorem State.aside_takePoll (s : State) (a : Address) : (s.takePoll a).aside = s.aside := by
  unfold State.takePoll
  split
  · rfl
  · split
    · rfl
    · dsimp only
      split
      · exact State.aside_addNotice _ _ .polled
      · rfl
      · rfl

theorem State.aside_takeClear (s : State) (scope : ClearScope) : (s.takeClear scope).aside = s.aside :=
  State.aside_forStations (f := State.clearTarget scope) (fun n t => ite_keeps State.aside rfl (t.aside_clearStation n)) _ s

theorem State.aside_takeTrigger (s : State) : s.takeTrigger.aside = s.aside :=
  State.aside_forStations (f := State.triggerTarget) (fun n t => ite_keeps State.aside rfl (t.aside_addNotice n _)) _ s

theorem State.aside_takeRemote (s : State) (on : Bool) : (s.takeRemote on).aside = s.aside := by
  unfold State.takeRemote
  rw [Proofs.remoteOff_eq]
  exact ite_keeps State.aside rfl (State.aside_pass (Proofs.reaches_moveMode _ _) _ _)

theorem State.aside_takeLockout (s : State) : s.takeLockout.aside = s.aside := by
  unfold State.takeLockout
  rw [Proofs.lockStation_eq]
  exact ite_keeps State.aside (State.aside_pass (Proofs.reaches_moveMode _ _) _ _) rfl

theorem State.aside_takeLocal (s : State) : s.takeLocal.aside = s.aside := by
  unfold State.takeLocal
  rw [Proofs.localStation_eq]
  exact State.aside_pass (Proofs.reaches_moveMode _ _) _ _

theorem State.aside_resetTransfers (s : State) : s.resetTransfers.aside = s.aside := by
  have frame := Proofs.resetTransfers_frame s
  generalize s.resetTransfers = t at frame ⊢
  rw [frame]
  rfl

/-! ### ROUTE frames -/

theorem State.backing_seatTalker (s : State) (a : Address) : (s.seatTalker a).state.backing = s.backing := by
  unfold State.seatTalker
  split
  · rfl
  · split
    · rfl
    · next n _ =>
      dsimp only
      split
      · exact backing_of_aside (State.aside_addNotice (s.writeMatch n a) n _)
      · split <;> rfl

theorem RoutePass.backing_seatListener (p : RoutePass) (a : Address) : (p.seatListener a).state.backing = p.state.backing := by
  unfold RoutePass.seatListener
  dsimp only
  split
  · rfl
  · next n _ =>
    have denied : ((p.state.writeMatch n a).addNotice n .seatDenied).backing = p.state.backing :=
      backing_of_aside (State.aside_addNotice (p.state.writeMatch n a) n _)
    split
    · rfl
    · split
      · exact denied
      · split
        · exact ite_keeps State.backing denied denied
        · split <;> rfl

theorem State.backing_takeRoute (s : State) (talker : Address) (listeners : List Address) :
    (s.takeRoute talker listeners).backing = s.backing := by
  have raise (t : State) (e : StationNo × Address) : (t.raisePortHold e).aside = t.aside := by
    unfold State.raisePortHold
    split <;> rfl
  exact (backing_of_aside (State.aside_forStations State.aside_reportRelease _ _)).trans <|
    (backing_of_aside (foldl_keeps State.aside raise _ _)).trans <|
    (backing_of_aside (foldl_keeps State.aside State.aside_remoteTransition _ _)).trans <|
    (foldl_keeps (fun p : RoutePass => p.state.backing) RoutePass.backing_seatListener listeners _).trans <|
    (State.backing_seatTalker _ talker).trans (backing_of_aside (State.aside_clearAcceptedPorts _))

end Sys2Proof.Machine

/-! ## What a frame and a staged frame store -/

namespace Sys2Proof.Machine

-- One theorem after the other: each thread of its own would take a stack.
set_option Elab.async false

open Sys2Proof.Claims Sys2Proof.Proofs

/-- From `s` to `t` the queue stays and, unless `stores`, no byte that the host owns in `s` changes (R174). -/
structure State.Spares (stores : Prop) (s t : State) : Prop where
  pending : t.pending = s.pending
  bytes : stores ∨ ∀ a, ¬ PartOwned s a → t.readByte a = s.readByte a

section
variable {stores stores' : Prop} {s t u : State}

theorem State.Spares.mono (h : s.Spares stores t) (wider : stores → stores') : s.Spares stores' t := ⟨h.pending, h.bytes.imp_left wider⟩

/-- A change of neither the queue nor the memory. -/
theorem State.Spares.of_backing (h : t.backing = s.backing) : s.Spares stores t :=
  ⟨congrArg (·.1) h, .inr fun a _ => State.readByte_congr (congrArg (·.2.1) h) (congrArg (·.2.2) h) a⟩

theorem State.Spares.of_aside (h : t.aside = s.aside) : s.Spares stores t := .of_backing (backing_of_aside h)

theorem State.Spares.refl (s : State) : s.Spares stores s := .of_backing rfl

/-- One change after another, if the first gives the part no byte. -/
theorem State.Spares.trans (h : s.Spares False t) (shrinks : ∀ a, PartOwned t a → PartOwned s a) (g : t.Spares stores u) : s.Spares stores u :=
  ⟨g.pending.trans h.pending, g.bytes.imp_right fun kept a free =>
    (kept a fun part => free (shrinks a part)).trans (h.bytes.resolve_left id a free)⟩

/-- A change of neither the queue nor the memory behind the other. -/
theorem State.Spares.andThen (h : s.Spares stores t) (g : u.backing = t.backing) : s.Spares stores u :=
  ⟨(congrArg (·.1) g).trans h.pending, h.bytes.imp_right fun kept a free =>
    (State.readByte_congr (congrArg (·.2.1) g) (congrArg (·.2.2) g) a).trans (kept a free)⟩

/-- A change of neither a record nor the queue nor the memory before the other. -/
theorem State.Spares.after (h : t.Spares stores u) (stations : t.stations = s.stations) (g : t.backing = s.backing) : s.Spares stores u :=
  .trans (.of_backing g) (fun a part => by simpa only [PartOwned, State.record_congr stations] using part) h

end

/-! ### A DATA frame -/

/-- A body is stored in a region that the part owns (R97, R174). -/
theorem partOwned_of_storesAt {s : State} {n : StationNo} {r : StationRecord} (hr : s.record n = some r) (live : r.life ≠ .retired)
    {body : List Byte} {a : Nat} (h : storesAt body r a) : PartOwned s a := by
  obtain ⟨g, hg, contained⟩ := storesAt_region h
  obtain ⟨first, last⟩ := (Region.contains_iff g a).mp contained
  obtain ⟨_, incomplete⟩ := inboundOffered_of_room h.1 false
  exact ⟨n, r, hr, live, .inl ⟨g, hg, first, last, fun f c complete => by rw [complete] at incomplete; cases incomplete⟩⟩

/-- The frame gives the part no byte: a region COMPLETE stays the host's (R99, R174). -/
theorem partOwned_of_offeredTo {body : List Byte} {endMark : Bool} {p q : DataPass} {n : StationNo} {r : StationRecord}
    (hr : p.state.record n = some r) (h : OfferedTo body endMark p q n r) {a : Nat} (part : PartOwned q.state a) : PartOwned p.state a := by
  obtain ⟨m, r', hr', live, owns⟩ := part
  rw [h.records] at hr'
  split at hr'
  · obtain rfl := Option.some.inj hr'
    refine ⟨n, r, hr, live, owns.imp_left ?_⟩
    rintro ⟨g, hg, first, last, incomplete⟩
    refine ⟨g, hg, first, last, fun f c complete => incomplete f c ?_⟩
    rw [(offered_of_complete complete body endMark).2, complete]
  · exact ⟨m, r', hr', live, owns⟩

/-- The frame offered to one station. -/
theorem DataPass.offer_spares (body : List Byte) (endMark : Bool) (p : DataPass) (n : StationNo) :
    p.state.Spares False (p.offer body endMark n).state ∧ ∀ a, PartOwned (p.offer body endMark n).state a → PartOwned p.state a := by
  cases hr : p.state.record n with
  | none => rw [DataPass.offer, hr]; exact ⟨.refl _, fun _ => id⟩
  | some r =>
    by_cases retired : r.life = .retired
    · rw [DataPass.offer, hr]
      dsimp only
      rw [if_pos retired]
      exact ⟨.refl _, fun _ => id⟩
    · have offer := offeredTo hr retired body endMark
      exact ⟨⟨by rw [offer.frame], .inr fun a free => offer.kept a fun h => free (partOwned_of_storesAt hr retired h)⟩,
        fun a => partOwned_of_offeredTo hr offer⟩

/-- The frame offered to the listeners in turn. -/
theorem DataPass.offers_spare (body : List Byte) (endMark : Bool) (ns : List StationNo) (p : DataPass) :
    p.state.Spares False (ns.foldl (DataPass.offer body endMark) p).state := by
  induction ns generalizing p with
  | nil => exact .refl _
  | cons n ns ih =>
    obtain ⟨spares, shrinks⟩ := p.offer_spares body endMark n
    exact spares.trans shrinks (ih (p.offer body endMark n))

/-- A DATA frame stores in the regions that the part owns alone (R98, R174). -/
theorem State.takeData_spares (s : State) (endMark : Bool) (body : List Byte) : s.Spares False (s.takeData endMark body) := by
  have offered := DataPass.offers_spare body endMark s.listeners ⟨s, [], []⟩
  unfold State.takeData
  dsimp only
  rw [raiseAll_eq]
  exact offered.andThen (ite_keeps State.backing rfl rfl)

/-- A frame taken. -/
theorem State.takeFrame_spares (s : State) (f : ControllerFrame) : s.Spares False (s.takeFrame f) := by
  cases f with
  | route talker listeners => exact .of_backing (s.backing_takeRoute talker listeners)
  | data endMark body => exact s.takeData_spares endMark body
  | fetch => exact .of_aside s.aside_takeFetch
  | poll a => exact .of_aside (s.aside_takePoll a)
  | clear scope => exact .of_aside (s.aside_takeClear scope)
  | trigger => exact .of_aside s.aside_takeTrigger
  | remote on => exact .of_aside (s.aside_takeRemote on)
  | lockout => exact .of_aside s.aside_takeLockout
  | localFrame => exact .of_aside s.aside_takeLocal
  | resetLink => exact .of_backing ((backing_of_aside s.linkResetSeen.aside_resetTransfers).trans rfl)
  | privateFrame code body => exact .of_aside (s.aside_takePrivate code body)

/-! ### The end of a frame -/

theorem State.backing_linkFault (s : State) (k : FaultKind) : (s.linkFault k).backing = s.backing := ite_keeps State.backing rfl rfl

theorem State.backing_damagedRun (s : State) : s.damagedRun.backing = s.backing := s.frameOver.backing_linkFault _

theorem State.judge_spares (s : State) (f : Option ControllerFrame) : s.Spares False (s.judge f) := by
  unfold State.judge
  dsimp only
  split
  · exact .of_backing (s.frameOver.backing_linkFault _)
  · next f =>
    split
    · exact .of_backing (s.frameOver.backing_linkFault _)
    · exact (s.frameOver.takeFrame_spares f).after rfl rfl

theorem State.atRunEnd_spares (s : State) {f : State → State} (h : ∀ t : State, t.Spares False (f t)) : s.Spares False (s.atRunEnd f) :=
  s.atRunEnd_cases f _ (.refl s) (h s) ((h s.startBit).after rfl rfl)

theorem State.frameEnds_spares (s : State) (f : Option ControllerFrame) : s.Spares False (s.frameEnds f) :=
  s.atRunEnd_spares fun t => t.judge_spares f

theorem State.judgeBytes_spares (s : State) (type : Byte) (body : List Byte) (check : Byte) :
    s.Spares False (s.judgeBytes type body check) := by
  unfold State.judgeBytes
  split
  · exact .of_backing s.backing_damagedRun
  · split
    · exact .of_backing (s.frameOver.backing_linkFault _)
    · split
      · exact .of_backing rfl
      · exact s.judge_spares _

theorem State.runEnds_spares (s : State) (run : LinkRun) : s.Spares False (s.runEnds run) := by
  cases run with
  | afterIdle chars =>
    unfold State.runEnds
    refine s.atRunEnd_spares fun t => ?_
    split
    · exact .of_backing t.backing_damagedRun
    · next type body check after _ =>
      have judged := t.judgeBytes_spares type body check
      exact judged.andThen (ite_keeps State.backing rfl (State.backing_damagedRun _))
  | afterCheck chars => exact s.atRunEnd_spares fun t => .of_backing t.backing_damagedRun

theorem State.responderFrame_spares (s : State) (body : List Byte) :
    s.Spares False (s.atRunEnd fun t => if body.length ≤ 40 then t.frameOver else t.damagedRun) :=
  s.atRunEnd_spares fun t => .of_backing (ite_keeps State.backing rfl t.backing_damagedRun)

/-! ### The staged frame -/

/-- A store changes the memory alone of the host's side. -/
theorem State.hostSide_storeFrame (s : State) (n : StationNo) (body : List Byte) (endMark : Bool) :
    (s.storeFrame n body endMark).hostSide = s.hostSide := by
  unfold State.storeFrame
  split
  · rfl
  · dsimp only
    split
    · exact (hostSide_of_aside (State.aside_addNotice _ n _)).trans rfl
    · rfl

/-- So does the delivery of the staged frame (R106). -/
theorem State.hostSide_deliverStaged (s : State) (n : StationNo) (g : Stage) : (s.deliverStaged n g).hostSide = s.hostSide := by
  obtain ⟨held, e⟩ := s.deliverStaged_eq n g
  have stored := ((s.leaveOwed n).hostSide_storeFrame n g.body g.endMark).trans (hostSide_of_aside (s.aside_leaveOwed n))
  rw [e]
  exact (hostSide_of_aside (State.aside_reportRelease n _)).trans (ite_keeps State.hostSide stored stored)

end Sys2Proof.Machine

/-! ## What the commands of the host leave alone, and how they complete -/

namespace Sys2Proof.Machine

-- One theorem after the other: each thread of its own would take a stack.
set_option Elab.async false

open Sys2Proof.Claims Sys2Proof.Proofs

/-- The action of a command leaves the host's side alone, RELEASE INBOUND alone stores, and its result agrees with byte 31: the number of
the failing field with BAD_FIELD, and else 0 but for DEFINE STATION (R10, R168, R172). -/
structure CommandOutcome.Closes (code : Byte) (s : State) (o : CommandOutcome) : Prop where
  hostSide : o.state.hostSide = s.hostSide
  backing : code ≠ 0x38 → o.state.backing = s.backing
  known : o.result ≠ .noneYet
  field : o.result = .badField → 1 ≤ o.detail.toNat ∧ o.detail.toNat ≤ 12
  detail : code ≠ 0x10 → o.result ≠ .badField → o.detail = 0

section
variable {code : Byte} {s t : State}

/-- A command completes with byte 31 at 0. -/
theorem CommandOutcome.Closes.answer {bytes : ResultBytes} (r : ResultCode) (aside : t.aside = s.aside := by rfl)
    (known : r ≠ .noneYet := by decide) (passed : r ≠ .badField := by decide) : CommandOutcome.Closes code s ⟨t, r, 0, bytes⟩ :=
  ⟨hostSide_of_aside aside, fun _ => backing_of_aside aside, known, fun e => absurd e passed, fun _ _ => rfl⟩

theorem CommandOutcome.Closes.plain (r : ResultCode) (aside : t.aside = s.aside := by rfl) (known : r ≠ .noneYet := by decide)
    (passed : r ≠ .badField := by decide) : (CommandOutcome.plain t r).Closes code s :=
  .answer r aside known passed

theorem CommandOutcome.Closes.badField (s : State) (k : Byte) (range : 1 ≤ k.toNat ∧ k.toNat ≤ 12 := by decide) :
    (CommandOutcome.badField s k).Closes code s :=
  ⟨rfl, fun _ => rfl, nofun, fun _ => range, fun _ failed => absurd rfl failed⟩

/-- The life-state check of R8. -/
theorem CommandOutcome.Closes.withStation {n : StationNo} {accepts : LifeState → Bool} {act : StationRecord → CommandOutcome}
    (h : ∀ r, (act r).Closes code s) : (Machine.withStation s n accepts act).Closes code s :=
  withStation_cases (CommandOutcome.Closes code s) (.plain .notDefined) (.plain .notOnline) fun r _ _ => h r

end

/-! ### The commands -/

theorem attachCommand_closes (code : Byte) (p : ParamBlock) (s : State) : (attachCommand p s).Closes code s := by
  unfold attachCommand
  split
  · exact .plain .already
  · exact .plain .ok

theorem detachCommand_closes (code : Byte) (p : ParamBlock) (s : State) : (detachCommand p s).Closes code s := by
  have reset := (State.aside_pass reaches_detachMode stationNumbers s.resetTransfers).trans s.aside_resetTransfers
  unfold detachCommand
  generalize s.resetTransfers.forStations stationNumbers State.detachMode = t at reset
  split
  · exact .plain .ok reset
  · exact .plain .already

/-- A field that fails has one of the numbers 1 to 12 (R10). -/
theorem defineFields_error_range {p : ParamBlock} {k : Byte} (h : defineFields p = .error k) : 1 ≤ k.toNat ∧ k.toNat ≤ 12 := by
  rcases fieldsPass_or_firstFailing p with pass | ⟨j, first⟩
  · rw [defineFields_ok p pass] at h; cases h
  · rw [defineFields_error p j first] at h
    obtain rfl := Except.error.inj h
    obtain ⟨low, high, _⟩ := first
    rw [BitVec.toNat_ofNat]
    omega

/-- A definition refused for want of a record (R11). -/
theorem chooseRecord_error {s : State} {d : Definition} {r : ResultCode} (h : s.chooseRecord d = .error r) :
    r = .stationInUse ∨ r = .noFreeStation := by
  unfold State.chooseRecord at h
  split at h
  · split at h
    · cases h
    · exact .inl (Except.error.inj h).symm
  · split at h
    · cases h
    · exact .inr (Except.error.inj h).symm

theorem defineStationCommand_closes (p : ParamBlock) (s : State) : (defineStationCommand p s).Closes 0x10 s := by
  have named {t : State} (r : ResultCode) (n : StationNo) (aside : t.aside = s.aside) (known : r ≠ .noneYet) (passed : r ≠ .badField) :
      CommandOutcome.Closes 0x10 s ⟨t, r, stationByte n, []⟩ :=
    ⟨hostSide_of_aside aside, fun _ => backing_of_aside aside, known, fun e => absurd e passed, fun other => absurd rfl other⟩
  unfold defineStationCommand
  split
  · next k failed => exact .badField s k (defineFields_error_range failed)
  · split
    · next r refused =>
      rcases chooseRecord_error refused with rfl | rfl
      · exact .plain .stationInUse
      · exact .plain .noFreeStation
    · split
      · exact named .addressInUse _ (by rfl) nofun nofun
      · split
        · exact named .regionInUse _ (by rfl) nofun nofun
        · exact named .ok _ (by rfl) nofun nofun

theorem adjustStationCommand_closes (code : Byte) (p : ParamBlock) (s : State) : (adjustStationCommand p s).Closes code s := by
  unfold adjustStationCommand
  split
  · exact .badField s 1
  · split
    · exact .badField s 3
    · exact .withStation fun _ => .plain .ok

theorem readStationCommand_closes (code : Byte) (p : ParamBlock) (s : State) : (readStationCommand p s).Closes code s := by
  unfold readStationCommand
  split
  · exact .badField s 1
  · exact .withStation fun _ => .answer .ok

theorem retireGraceful_closes (code : Byte) (s : State) (n : StationNo) : (retireGraceful s n).Closes code s := by
  unfold retireGraceful
  dsimp only
  split
  · exact .plain .pending
  · exact .plain .ok ((s.quietStation n).aside_becomeRetired n)

theorem retireImmediate_closes (code : Byte) (s : State) (n : StationNo) (r : StationRecord) : (retireImmediate s n r).Closes code s := by
  have quiet : (if r.life = .online then s.quietStation n else s).aside = s.aside := ite_keeps State.aside rfl rfl
  unfold retireImmediate
  generalize (if r.life = .online then s.quietStation n else s) = t at quiet
  exact .plain .ok ((State.aside_becomeRetired _ n).trans ((t.aside_cutStation n).trans quiet))

theorem retireStationCommand_closes (code : Byte) (p : ParamBlock) (s : State) : (retireStationCommand p s).Closes code s := by
  unfold retireStationCommand
  split
  · exact .badField s 1
  · next n _ =>
    split
    · exact .withStation fun _ => retireGraceful_closes code s n
    · split
      · exact .withStation fun r => retireImmediate_closes code s n r
      · exact .badField s 2

theorem setStatusCommand_closes (code : Byte) (p : ParamBlock) (s : State) : (setStatusCommand p s).Closes code s := by
  unfold setStatusCommand
  split
  · exact .badField s 1
  · split
    · exact .badField s 2
    · exact .withStation fun _ => .plain .ok

theorem requestServiceCommand_closes (code : Byte) (p : ParamBlock) (s : State) : (requestServiceCommand p s).Closes code s := by
  unfold requestServiceCommand
  split
  · exact .badField s 1
  · split
    · exact .badField s 2
    · refine .withStation fun _ => ?_
      split
      · exact .plain .requestUnwithdrawn
      · exact .plain .ok
      · exact .plain .ok

theorem withdrawRequestCommand_closes (code : Byte) (p : ParamBlock) (s : State) : (withdrawRequestCommand p s).Closes code s := by
  unfold withdrawRequestCommand
  split
  · exact .badField s 1
  · exact .withStation fun _ => .answer .ok

theorem returnToLocalCommand_closes (code : Byte) (p : ParamBlock) (s : State) : (returnToLocalCommand p s).Closes code s := by
  unfold returnToLocalCommand
  split
  · exact .badField s 1
  · refine .withStation fun _ => ?_
    split
    · exact .plain .ok
    · exact .plain .locked
    · exact .plain .alreadyLocal
    · exact .plain .alreadyLocal

theorem postOutboundCommand_closes (code : Byte) (p : ParamBlock) (s : State) : (postOutboundCommand p s).Closes code s := by
  unfold postOutboundCommand
  split
  · exact .badField s 1
  · dsimp only
    split
    · exact .badField s 2
    · split
      · exact .badField s 3
      · refine .withStation fun _ => ?_
        split
        · exact .badField s 1
        · split
          · exact .badField s 2
          · split
            · exact .plain .outboundBusy
            · exact .plain .ok

theorem cancelOutboundCommand_closes (code : Byte) (p : ParamBlock) (s : State) : (cancelOutboundCommand p s).Closes code s := by
  unfold cancelOutboundCommand
  split
  · exact .badField s 1
  · refine .withStation fun _ => ?_
    split
    · exact .plain .ok
    · exact .plain .ok
    · exact .plain .nothingToCancel
    · exact .plain .nothingToCancel

/-- RELEASE INBOUND alone stores, when it delivers the staged frame (R105). -/
theorem releaseInboundCommand_closes (p : ParamBlock) (s : State) : (releaseInboundCommand p s).Closes 0x38 s := by
  unfold releaseInboundCommand
  split
  · exact .badField s 1
  · next n _ =>
    refine .withStation fun _ => ?_
    split
    · dsimp only
      split
      · exact .answer .ok
      · split
        · exact ⟨(State.hostSide_deliverStaged _ n _).trans rfl, fun other => absurd rfl other, nofun, nofun, fun _ _ => rfl⟩
        · exact .answer .ok
    · exact .plain .inboundNotHeld

theorem takeNoticeCommand_closes (code : Byte) (p : ParamBlock) (s : State) : (takeNoticeCommand p s).Closes code s := by
  unfold takeNoticeCommand
  split
  · exact .answer .empty
  · split
    · exact .answer .ok
    · exact .answer .ok

theorem readHoldCommand_closes (code : Byte) (p : ParamBlock) (s : State) : (readHoldCommand p s).Closes code s := by
  have found (h : Hold) : (readHoldOutcome s h).Closes code s := .answer .ok
  unfold readHoldCommand
  split
  · split
    · exact .plain .empty
    · exact found _
  · split
    · exact .badField s 1
    · refine .withStation fun _ => ?_
      split
      · exact .plain .noHold
      · exact found _

theorem answerHoldCommand_closes (code : Byte) (p : ParamBlock) (s : State) : (answerHoldCommand p s).Closes code s := by
  unfold answerHoldCommand
  split
  · exact .badField s 1
  · split
    · exact .badField s 3
    · refine .withStation fun _ => ?_
      split
      · exact .plain .noHold
      · next h _ =>
        split
        · exact .plain .ok (s.aside_answerWith h _)
        · exact .plain .noHold

theorem forceTriggerCommand_closes (code : Byte) (p : ParamBlock) (s : State) : (forceTriggerCommand p s).Closes code s := by
  unfold forceTriggerCommand
  split
  · split
    · exact .badField s 2
    · exact .plain .ok
  · exact .badField s 1

/-- The action of every command. -/
theorem commandAction_closes (code : Byte) (p : ParamBlock) (s : State) : (commandAction code p s).Closes code s :=
  commandAction_cases (fun code act => (act p s).Closes code s) (attach := attachCommand_closes _ p s)
    (detach := detachCommand_closes _ p s) (define := defineStationCommand_closes p s) (adjust := adjustStationCommand_closes _ p s)
    (readStation := readStationCommand_closes _ p s) (retire := retireStationCommand_closes _ p s)
    (setStatus := setStatusCommand_closes _ p s) (request := requestServiceCommand_closes _ p s)
    (withdraw := withdrawRequestCommand_closes _ p s) (toLocal := returnToLocalCommand_closes _ p s)
    (post := postOutboundCommand_closes _ p s) (cancel := cancelOutboundCommand_closes _ p s)
    (release := releaseInboundCommand_closes p s) (take := takeNoticeCommand_closes _ p s) (readHold := readHoldCommand_closes _ p s)
    (answer := answerHoldCommand_closes _ p s) (readRoute := .answer .ok) (limit := .plain .ok)
    (force := forceTriggerCommand_closes _ p s) (unknown := fun _ => .plain .unknownCommand) code

/-! ### The rows of commands -/

/-- A command that completes stores nothing, but for RELEASE INBOUND. -/
theorem commandAction_finish_spares (code : Byte) (p : ParamBlock) (s : State) : s.Spares (code = 0x38) (commandAction code p s).finish := by
  have closes := commandAction_closes code p s
  by_cases release : code = 0x38
  · exact ⟨congrArg (·.2.2.1) closes.hostSide, .inl release⟩
  · exact .of_backing (closes.backing release)

theorem State.issue_spares (s : State) (code : Byte) : s.Spares (code = 0x38) (s.issue code (commandAction code)) :=
  s.issue_cases (s.Spares (code = 0x38)) code _ (fun _ => .refl s) (fun _ _ => .of_backing rfl)
    (fun p _ _ => commandAction_finish_spares code p s)
    fun _ _ => (commandAction_finish_spares code s.params (s.accept code)).after rfl rfl

theorem State.issueRetire_spares (s : State) (mode : Byte) : s.Spares False (s.issueRetire mode retireStationCommand) := by
  have completes (p : ParamBlock) (t : State) : t.Spares False (retireStationCommand p t).finish :=
    (commandAction_finish_spares 0x13 p t).mono (by decide)
  exact s.issueRetire_cases (s.Spares False) mode _ (fun _ => .refl s) (fun _ _ => .of_backing rfl) (fun p _ _ => completes p s)
    fun _ _ => (completes _ _).after rfl rfl

end Sys2Proof.Machine

/-! ## Every row leaves the queue and the bytes that the host owns -/

namespace Sys2Proof.Proofs

-- One theorem after the other: each thread of its own would take a stack.
set_option Elab.async false

open Sys2Proof Sys2Proof.Machine Sys2Proof.Claims

/-- The rows that may change a byte of buffer memory that the host owns: its own write, RELEASE INBOUND and a power-on. -/
def storing (s : State) : Instr → Prop
  | .dataWrite _ => True
  | .registerWrite reg _ => reg = 0x6
  | .hardwareReset powerOn => powerOn = true
  | .releaseInbound => True
  | .unknownCommand code => code = 0x38
  | .commandCompletion => ∃ p, s.engine = .busy 0x38 p
  | _ => False

/-! ### Rows of the host port -/

section
variable {stores : Prop} {s : State}

theorem access_spares {f : State → State} (h : s.Spares stores (f s)) : s.Spares stores (s.access f) := by
  unfold State.access
  split
  · exact .refl s
  · exact h

/-- A read moves nothing but the registers of the port. -/
theorem readAccess_spares (reg : BitVec 4) {f : State → State} (h : s.Spares stores (f s)) : s.Spares stores (s.readAccess reg f) := by
  unfold State.readAccess
  split
  · exact .of_backing rfl
  · exact ⟨h.pending, h.bytes⟩

theorem backing_accessRefused (s : State) (a : BitVec 13) : (s.accessRefused a).backing = s.backing := ite_keeps State.backing rfl rfl

theorem backing_passDataRead (s : State) : s.passDataRead.backing = s.backing :=
  ite_keeps State.backing (backing_accessRefused s s.dataPointer) rfl

theorem backing_writeParamIndex (s : State) (v : Byte) : (s.writeParamIndex v).backing = s.backing := ite_keeps State.backing rfl rfl

theorem backing_writeParamData (s : State) (v : Byte) : (s.writeParamData v).backing = s.backing := ite_keeps State.backing rfl rfl

theorem backing_writeCommand (s : State) (v : Byte) : (s.writeCommand v).backing = s.backing := ite_keeps State.backing rfl rfl

theorem writeData_spares (s : State) (v : Byte) : s.Spares True (s.writeData v) := by
  refine ⟨?_, .inl trivial⟩
  exact ite_keeps State.pending (congrArg (·.1) (backing_accessRefused s s.dataPointer)) rfl

/-- Of the writes in the register window that of DATA alone may store (R174). -/
theorem writeRegister_spares (s : State) (reg : BitVec 4) (v : Byte) : s.Spares (reg = 0x6) (s.writeRegister reg v) := by
  unfold State.writeRegister
  split
  · exact .of_backing (backing_writeCommand s v)
  · exact .of_backing (backing_writeParamIndex s v)
  · exact .of_backing (backing_writeParamData s v)
  · exact .of_backing rfl
  · exact .of_backing rfl
  · next data => exact (writeData_spares s v).mono fun _ => BitVec.eq_of_toNat_eq data
  · exact .of_backing rfl
  · exact .of_backing rfl
  · exact .refl s

end

/-! ### Every row -/

theorem execCommandCompletion_spares (s : State) :
    ∃ t, execCommandCompletion s = .next t ∧ s.Spares (∃ p, s.engine = .busy 0x38 p) t := by
  refine ⟨_, rfl, ?_⟩
  split
  · next code p busy => exact (commandAction_finish_spares code p s).mono fun release => ⟨p, release ▸ busy⟩
  · exact .refl s
  · exact .refl s

/-- Every row answers a next state, leaves the queue and, unless it may store there, the bytes that the host owns. -/
theorem exec_spares (c : Instr) (s : State) : ∃ t, exec c s = .next t ∧ s.Spares (storing s c) t := by
  have issued (code : Byte) (other : code ≠ 0x38 := by decide) : s.Spares False (s.issue code (commandAction code)) :=
    (s.issue_spares code).mono other
  cases c with
  | hardwareReset powerOn =>
    refine ⟨_, rfl, ?_⟩
    cases powerOn with
    | true => exact ⟨rfl, .inl rfl⟩
    | false => exact .of_backing rfl
  | commandCompletion => exact execCommandCompletion_spares s
  | attach => exact ⟨_, rfl, issued 0x01⟩
  | detach => exact ⟨_, rfl, issued 0x02⟩
  | defineStation => exact ⟨_, rfl, issued 0x10⟩
  | adjustStation => exact ⟨_, rfl, issued 0x11⟩
  | readStation => exact ⟨_, rfl, issued 0x12⟩
  | retireStationGraceful => exact ⟨_, rfl, s.issueRetire_spares 0⟩
  | retireStationImmediate => exact ⟨_, rfl, s.issueRetire_spares 1⟩
  | setStatus => exact ⟨_, rfl, issued 0x20⟩
  | requestService => exact ⟨_, rfl, issued 0x21⟩
  | withdrawRequest => exact ⟨_, rfl, issued 0x22⟩
  | returnToLocal => exact ⟨_, rfl, issued 0x28⟩
  | postOutbound => exact ⟨_, rfl, issued 0x30⟩
  | cancelOutbound => exact ⟨_, rfl, issued 0x31⟩
  | releaseInbound => exact ⟨_, rfl, (s.issue_spares 0x38).mono fun _ => trivial⟩
  | takeNotice => exact ⟨_, rfl, issued 0x40⟩
  | readHold => exact ⟨_, rfl, issued 0x48⟩
  | answerHold => exact ⟨_, rfl, issued 0x49⟩
  | readRoute => exact ⟨_, rfl, issued 0x50⟩
  | setHoldLimit => exact ⟨_, rfl, issued 0x58⟩
  | forceTrigger => exact ⟨_, rfl, issued 0x60⟩
  | unknownCommand code => exact ⟨_, rfl, s.issue_spares code⟩
  | route | data | fetch | poll | clear | trigger | remote | lockout | localFrame | resetLink | privateFrame =>
    exact ⟨_, rfl, s.frameEnds_spares _⟩
  | responderFrame isStatus body => exact ⟨_, rfl, s.responderFrame_spares body⟩
  | frameDiscarded run => exact ⟨_, rfl, s.runEnds_spares run⟩
  | frameStart =>
    refine ⟨_, rfl, .of_backing (ite_keeps State.backing ?_ rfl)⟩
    split
    · rfl
    · rfl
    · exact s.backing_damagedRun
  | idleGap =>
    refine ⟨_, rfl, .of_backing (ite_keeps State.backing ?_ rfl)⟩
    split
    · rfl
    · rfl
    · exact s.backing_damagedRun
  | sendReply =>
    refine ⟨_, rfl, ?_⟩
    split
    · exact .of_backing rfl
    · exact .refl s
  | replySent => exact ⟨_, rfl, .of_backing rfl⟩
  | holdExpiry => exact ⟨_, rfl, .of_aside s.aside_expireHolds⟩
  | stageExpiry => exact ⟨_, rfl, .of_aside s.aside_expireStage⟩
  | millisecondStep => exact ⟨_, rfl, .of_aside (s.expireHolds.aside_expireStage.trans s.aside_expireHolds)⟩
  | readResult => exact ⟨_, rfl, readAccess_spares 0x1 (.of_backing (ite_keeps State.backing rfl rfl))⟩
  | paramDataRead => exact ⟨_, rfl, readAccess_spares 0x3 (.of_backing rfl)⟩
  | dataRead => exact ⟨_, rfl, readAccess_spares 0x6 (.of_backing (backing_passDataRead s))⟩
  | paramIndexWrite v => exact ⟨_, rfl, access_spares (.of_backing (backing_writeParamIndex s v))⟩
  | paramDataWrite v => exact ⟨_, rfl, access_spares (.of_backing (backing_writeParamData s v))⟩
  | dataWrite v => exact ⟨_, rfl, access_spares (writeData_spares s v)⟩
  | irqEnableWrite v => exact ⟨_, rfl, access_spares (.of_backing rfl)⟩
  | deviceNoticeWrite v => exact ⟨_, rfl, access_spares (.of_backing rfl)⟩
  | registerWrite reg v => exact ⟨_, rfl, access_spares (writeRegister_spares s reg v)⟩
  | nrstRelease => exact ⟨_, rfl, .of_backing rfl⟩

/-- Settles O2: the queue is out of reach of every row. -/
theorem commandsLeaveTheQueue : Obligations.CommandsLeaveTheQueue := by
  intro c s
  obtain ⟨t, next, spares⟩ := exec_spares c s
  exact ⟨t, next, spares.pending⟩

/-- Settles O10: the rows named apart are those that may store, and every other spares the bytes, in whatever state it finds. -/
theorem hostOwnedBytesKept : Obligations.HostOwnedBytesKept := by
  intro c s t a _ next free noWrite noRegister noPower noRelease noCode noCompletion
  obtain ⟨u, next', spares⟩ := exec_spares c s
  obtain rfl := Host.Outcome.next.inj (next'.symm.trans next)
  refine (spares.bytes.resolve_left fun stores => ?_) a free
  cases c with
  | dataWrite v => exact noWrite v rfl
  | registerWrite reg v => exact noRegister v (congrArg (Instr.registerWrite · v) stores)
  | hardwareReset powerOn => exact noPower (congrArg Instr.hardwareReset stores)
  | releaseInbound => exact noRelease rfl
  | unknownCommand code => exact noCode (congrArg Instr.unknownCommand stores)
  | commandCompletion =>
    obtain ⟨p, busy⟩ := stores
    exact noCompletion rfl p busy
  | _ => exact stores

end Sys2Proof.Proofs

/-! ## Completion and acceptance as their rules state them -/

namespace Sys2Proof.Proofs

-- One theorem after the other: each thread of its own would take a stack.
set_option Elab.async false

open Sys2Proof Sys2Proof.Machine Sys2Proof.Claims

/-! ### The completion of the command in hand -/

/-- COMMAND_COMPLETION completes the command in hand (R168). -/
theorem exec_commandCompletion {s : State} {code : Byte} {p : ParamBlock} (busy : s.engine = .busy code p) :
    exec .commandCompletion s = .next (commandAction code p s).finish := by
  show execCommandCompletion s = _
  rw [execCommandCompletion, busy]

theorem exec_commandCompletion_free {s : State} (free : ∀ code p, s.engine ≠ .busy code p) : exec .commandCompletion s = .next s := by
  show execCommandCompletion s = _
  unfold execCommandCompletion
  split
  · next code p busy => exact absurd busy (free code p)
  · rfl
  · rfl

/-- Byte 31 of a completion is the result detail, whatever result bytes come before it (R172). -/
theorem finish_params_last (o : CommandOutcome) : o.finish.params[31] = o.detail := Vector.getElem_set_self _

/-- Settles O17: what the action of the command leaves alone stays, and its result and byte 31 agree. -/
theorem completionEndsTheCommand : Obligations.CompletionEndsTheCommand := by
  intro s code p busy
  obtain ⟨hostSide, _, known, field, detail⟩ := commandAction_closes code p s
  simp only [State.hostSide, State.window, State.deviceFlags, Prod.mk.injEq] at hostSide
  obtain ⟨⟨index, pointer, enables, read, nrst⟩, ⟨device, fault, denied, refused⟩, _, powerOns⟩ := hostSide
  refine ⟨_, exec_commandCompletion busy, rfl, known, fun passed _ _ other => ?_, fun failed => ?_, index, pointer, enables, device, fault,
    denied, refused, read, powerOns, nrst⟩
  · rw [finish_params_last, detail other passed]
  · rw [finish_params_last]
    exact field failed

/-! ### The row of a command -/

theorem issueRetire_inHand {s : State} {p : ParamBlock} {mode : Byte} (nrst : s.nrstLow = false) (busy : s.engine = .busy 0x13 p)
    (hm : p[1] = mode) : s.issueRetire mode retireStationCommand = (retireStationCommand p s).finish := by
  simp [State.issueRetire, nrst, busy, hm]

/-- What the row of a command does: it completes that command in hand, and with none in hand accepts and completes it, from the parameter
block as it stands (log entry 5). -/
structure RowOf (code : Byte) (p : ParamBlock) (c : Instr) : Prop where
  inHand : ∀ s : State, s.nrstLow = false → s.engine = .busy code p → exec c s = .next (commandAction code p s).finish
  fresh : ∀ s : State, Ready s → s.params = p → exec c s = .next (commandAction code p (s.accept code)).finish

theorem rowOf_issue {code : Byte} {c : Instr} (p : ParamBlock) (row : ∀ s, exec c s = .next (s.issue code (commandAction code))) :
    RowOf code p c where
  inHand s nrst busy := by rw [row, s.issue_inHand code p _ nrst busy]
  fresh s ready params := by rw [row, Ready.issue ready, params]

/-- The rows of RETIRE STATION write their mode into byte 1, where the parameter block has it already. -/
theorem rowOf_issueRetire {mode : Byte} {c : Instr} {p : ParamBlock} (hm : p[1] = mode)
    (row : ∀ s, exec c s = .next (s.issueRetire mode retireStationCommand)) : RowOf 0x13 p c where
  inHand s nrst busy := by rw [row, issueRetire_inHand nrst busy hm]; rfl
  fresh s ready params := by
    subst params
    have written : s.params.set 1 mode = s.params := hm ▸ Vector.set_getElem_self (by decide)
    rw [row, Ready.issueRetire ready, written]
    rfl

/-- RETIRE STATION has a row for each of its two modes (R17). -/
theorem rowOf_retire {p : ParamBlock} {c : Instr}
    (h : (if p[1] = 0 then some .retireStationGraceful else if p[1] = 1 then some .retireStationImmediate else none) = some c) :
    RowOf 0x13 p c := by
  split at h
  · next mode => exact Option.some.inj h ▸ rowOf_issueRetire mode fun _ => rfl
  · split at h
    · next mode => exact Option.some.inj h ▸ rowOf_issueRetire mode fun _ => rfl
    · cases h

/-- The row of the command in hand is the command's own. -/
theorem rowOf_rowInHand {code : Byte} {p : ParamBlock} {c : Instr} (h : rowInHand code p = some c) : RowOf code p c := by
  have test {k : Byte} {x o : Option Instr} (here : x = some c → RowOf k p c) (rest : o = some c → RowOf code p c)
      (e : (if code = k then x else o) = some c) : RowOf code p c := by
    split at e
    · next same => exact same ▸ here e
    · exact rest e
  have issued {k : Byte} {d : Instr} (row : ∀ s, exec d s = .next (s.issue k (commandAction k))) (e : some d = some c) : RowOf k p c :=
    Option.some.inj e ▸ rowOf_issue p row
  have unknown : some (Instr.unknownCommand code) = some c → RowOf code p c := issued fun _ => rfl
  exact (test (issued fun _ => rfl) <| test (issued fun _ => rfl) <| test (issued fun _ => rfl) <| test (issued fun _ => rfl) <|
    test (issued fun _ => rfl) <| test rowOf_retire <| test (issued fun _ => rfl) <| test (issued fun _ => rfl) <|
    test (issued fun _ => rfl) <| test (issued fun _ => rfl) <| test (issued fun _ => rfl) <| test (issued fun _ => rfl) <|
    test (issued fun _ => rfl) <| test (issued fun _ => rfl) <| test (issued fun _ => rfl) <| test (issued fun _ => rfl) <|
    test (issued fun _ => rfl) <| test (issued fun _ => rfl) <| test (issued fun _ => rfl) unknown) h

/-! ### Acceptance -/

/-- COMMAND accepts a command that the host can issue, with a copy of the parameter block (R167). -/
theorem exec_writeCommand {s : State} (ready : Ready s) (code : Byte) : exec (.registerWrite 0x0 code) s = .next (s.accept code) := by
  rw [exec_registerWrite ready.1]
  exact congrArg Host.Outcome.next (if_neg (by rw [Ready.free ready]; exact nofun))

/-- A command in hand holds the parameter block as it stands, so that accepting it anew changes nothing (R167, R169, R170). -/
theorem accept_inHand {s : State} (law : s.hostLaw) {code : Byte} {p : ParamBlock} (busy : s.engine = .busy code p) :
    ({ s with engine := .idle } : State).accept code = s := by
  obtain ⟨rfl, result⟩ := law.1 code p busy
  rw [State.accept, ← busy, ← result]

theorem finish_badField (s : State) (k : Byte) : (CommandOutcome.badField s k).finish = refused s .badField k := rfl

/-- RETIRE STATION in a mode without a row (R17). -/
theorem retireStationCommand_badMode {p : ParamBlock} (mode : 1 < p[1].toNat) (s : State) :
    retireStationCommand p s = .badField s (if 32 ≤ p[0].toNat then 1 else 2) := by
  have graceless : p[1] ≠ 0 := fun e => by rw [e] at mode; exact absurd mode (by decide)
  have slow : p[1] ≠ 1 := fun e => by rw [e] at mode; exact absurd mode (by decide)
  by_cases big : 32 ≤ p[0].toNat
  · rw [retireStationCommand, stationField_none _ big, if_pos big]
  · rw [retireStationCommand, stationField_val p[0] ⟨p[0].toNat, Nat.lt_of_not_le big⟩ rfl, if_neg big]
    dsimp only
    rw [if_neg graceless, if_neg slow]

/-- Settles O16: the row of the command in hand completes it with the same action, and a command accepted has the parameter block as its
snapshot. -/
theorem completionIsTheRow : Obligations.CompletionIsTheRow := by
  refine ⟨fun s code p c nrst busy row => ?inHand, fun s free => exec_commandCompletion_free free,
    fun s code p c law nrst busy row => ?late, fun s code c u ready row accepted => ?accepted, fun s p busy mode => ?badMode⟩
  case inHand => rw [exec_commandCompletion busy, (rowOf_rowInHand row).inHand s nrst busy]
  case late =>
    have ready : Ready { s with engine := .idle } := ⟨nrst, nofun⟩
    rw [exec_commandCompletion busy, (rowOf_rowInHand row).fresh _ ready (law.1 code p busy).1.symm, accept_inHand law busy]
  case accepted =>
    obtain rfl := Host.Outcome.next.inj ((exec_writeCommand ready code).symm.trans accepted)
    have own := rowOf_rowInHand row
    rw [own.fresh s ready rfl]
    exact ⟨own.inHand _ ready.1 rfl, exec_commandCompletion rfl⟩
  case badMode =>
    rw [exec_commandCompletion busy, ← finish_badField, ← retireStationCommand_badMode mode]
    rfl

/-! ### Writes of the host while a command is in hand, and unknown commands -/

theorem busyEngine_of_busy {s : State} {code : Byte} {p : ParamBlock} (busy : s.engine = .busy code p) : s.busyEngine = true := by
  rw [State.busyEngine, busy]

/-- A code outside the command table has no action (R167). -/
theorem commandAction_unknown {code : Byte} (outside : code ∉ commandCodes) : commandAction code = unknownCommandAction := by
  simp only [commandCodes, List.mem_cons, List.not_mem_nil, or_false, not_or] at outside
  simp only [commandAction, outside, if_false]

/-- Settles O18: each write tests the engine alone, and an unknown command changes no block. -/
theorem commandWrites : Obligations.CommandWrites := by
  refine ⟨fun s v ready => exec_writeCommand ready v, fun s c code p v nrst busy write => ?overrun, fun s code ready outside => ?unknown⟩
  case overrun =>
    have inHand := busyEngine_of_busy busy
    rcases write with rfl | rfl | rfl | rfl | rfl
    · rw [exec_registerWrite nrst]; exact congrArg Host.Outcome.next (if_pos inHand)
    · rw [exec_registerWrite nrst]; exact congrArg Host.Outcome.next (if_pos inHand)
    · rw [exec_registerWrite nrst]; exact congrArg Host.Outcome.next (if_pos inHand)
    · exact congrArg Host.Outcome.next ((access_released nrst _).trans (if_pos inHand))
    · exact congrArg Host.Outcome.next ((access_released nrst _).trans (if_pos inHand))
  case unknown =>
    refine congrArg Host.Outcome.next ((Ready.issue ready code _).trans ?_)
    rw [commandAction_unknown outside]
    rfl

end Sys2Proof.Proofs

/-! ## The data port and the step as their rules state them -/

namespace Sys2Proof.Proofs

-- One theorem after the other: each thread of its own would take a stack.
set_option Elab.async false

open Sys2Proof Sys2Proof.Machine Sys2Proof.Claims

/-! ### The data port -/

/-- ACCESS_REFUSED keeps the address of the first access refused since the flag was clear (R175). -/
theorem accessRefused_eq (s : State) (a : BitVec 13) : s.accessRefused a =
    { s with
      device := { s.device with accessRefused := true }
      refusedAddress := if s.device.accessRefused then s.refusedAddress else a } := by
  unfold State.accessRefused
  cases set : s.device.accessRefused with
  | false => rfl
  | true =>
    have kept : { s.device with accessRefused := true } = s.device := by rw [← set]
    rw [kept]
    rfl

/-- Settles O19: the byte driven and the side effect turn on the same test of the byte's owner. -/
theorem dataRead : Obligations.DataRead := by
  intro s nrst
  have read : exec .dataRead s = .next { s.passDataRead with readData := some s.dataByte } :=
    congrArg Host.Outcome.next (readAccess_released nrst 0x6 State.passDataRead)
  rw [← partOwned_iff, read, State.passDataRead, State.dataByte]
  refine ⟨fun free => ?_, fun part => ?_⟩
  · rw [if_neg free, if_neg free]
    rfl
  · rw [if_pos part, if_pos part, accessRefused_eq]
    rfl

/-- What is read once a byte has been stored (R174). -/
theorem readByte_write (s : State) (a b : Nat) (v : Byte) :
    ({ s with memory := Memory.write s.memory a v } : State).readByte b = if b = a then v else s.readByte b := by
  simp only [State.readByte, Memory.read_write]
  by_cases h : b = a
  · rw [if_pos h, if_pos h]
  · rw [if_neg h, if_neg h]

/-- Settles O20: the store is at the pointer alone. -/
theorem dataWrite : Obligations.DataWrite := by
  intro s v nrst
  have write : exec (.dataWrite v) s = .next (s.writeData v) := congrArg Host.Outcome.next (access_released nrst _)
  rw [← partOwned_iff, write, State.writeData]
  refine ⟨fun free => ⟨_, rfl, ?_⟩, fun part => ?_⟩
  · rw [if_neg free]
    exact ⟨fun a => readByte_write s s.dataPointer.toNat a v, rfl⟩
  · rw [if_pos part, accessRefused_eq]
    rfl

/-! ### NRST and the step -/

/-- Settles O15: every row of the host tests NRST first. -/
theorem nrstLowTakesNoAccess : Obligations.NrstLowTakesNoAccess := by
  refine ⟨fun c s low host => ?write, fun c s low read => ?read⟩
  case write =>
    have access (f : State → State) : s.access f = s := if_pos low
    have issue (code : Byte) (act : ParamBlock → State → CommandOutcome) : s.issue code act = s := s.issue_lost code act low
    have retire (mode : Byte) (act : ParamBlock → State → CommandOutcome) : s.issueRetire mode act = s := if_pos low
    cases c
    case paramIndexWrite | paramDataWrite | dataWrite | irqEnableWrite | deviceNoticeWrite | registerWrite =>
      exact congrArg Host.Outcome.next (access _)
    case retireStationGraceful | retireStationImmediate => exact congrArg Host.Outcome.next (retire _ _)
    case attach | detach | defineStation | adjustStation | readStation | setStatus | requestService | withdrawRequest | returnToLocal |
        postOutbound | cancelOutbound | releaseInbound | takeNotice | readHold | answerHold | readRoute | setHoldLimit | forceTrigger |
        unknownCommand =>
      exact congrArg Host.Outcome.next (issue _ _)
    all_goals cases host
  case read =>
    have lost (reg : BitVec 4) (f : State → State) : s.readAccess reg f = { s with readData := none } := if_pos low
    rcases read with rfl | rfl | rfl
    · exact congrArg Host.Outcome.next (lost _ _)
    · exact congrArg Host.Outcome.next (lost _ _)
    · exact congrArg Host.Outcome.next (lost _ _)

/-- Settles O1: the two equations of the step, by the queue. -/
theorem stepTakesTheFront : Obligations.StepTakesTheFront := ⟨step_cons, step_nil⟩

end Sys2Proof.Proofs
